-- ==== Sys2Proof/Word.lean ====
section
/-! DEFINITION. The words and the sets of names of nRF905-MSED: the command word, the tick counter's word, the
status word, and the closed sets of lines, modes, events, contexts and refusal reasons (spec/00_scope.md R7, R9).
Line levels are logical: `true` is 1, asserted (R9). -/

namespace Sys2Proof

/-- A command word, and a response value: 8 bits (30_encoding.md R70, R79). -/
abbrev Word := BitVec 8

/-- A wait counter: 16 bits (00_scope.md R7, 10_state.md R27). -/
abbrev Ticks := BitVec 16

/-- The status word `{DR, AM}`: 2 bits (30_encoding.md R76). -/
abbrev Status := BitVec 2

/-- The control lines the block drives (10_state.md R22). -/
inductive Line where
  | pwr
  | stby
  | txen
deriving DecidableEq, Repr, Inhabited

/-- The radio's mode, worked out from the lines and never stored (10_state.md R23, 30_encoding.md R77). -/
inductive Mode where
  | powerDown
  | standby
  | receive
  | transmit
  | activeUnknown
deriving DecidableEq, Repr, Inhabited

/-- TX's operand `nm`, the source's `nextMode` (30_encoding.md R73). The reserved code 0b11 is refused by the decoder
and has no value here (log entry 10). -/
inductive NextMode where
  | transmit
  | standby
  | receive
deriving DecidableEq, Repr, Inhabited

/-- The four application events (30_encoding.md R78). -/
inductive Event where
  | rxComplete
  | rxInvalid
  | txComplete
  | addrMatch
deriving DecidableEq, Repr, Inhabited

/-- The two execution contexts (60_exceptions.md R180). -/
inductive Ctx where
  | foreground
  | handler
deriving DecidableEq, Repr, Inhabited

/-- The dispatch discipline (00_scope.md R5). -/
inductive Discipline where
  | polled
  | interruptDriven
deriving DecidableEq, Repr, Inhabited

/-- The sequencer's state (10_state.md R25). The reserved values 5, 6 and 7 are left out of the type, as R25 allows
(log entry 10). -/
inductive Seq where
  | idle
  | initWait
  | txPwrupWait
  | txRxWait
  | txSbWait
deriving DecidableEq, Repr, Inhabited

/-- The refusal reasons (60_exceptions.md R171). Codes 6 and 7 are never raised and have no value here
(log entry 10). -/
inductive RefuseReason where
  | none
  | illegalOpcode
  | reservedField
  | reservedNextMode
  | discipline
  | config
deriving DecidableEq, Repr, Inhabited

/-- The commands as a response names them (10_state.md R32; opcodes in 30_encoding.md R71). -/
inductive CommandOp where
  | pwrdn
  | stby
  | rx
  | tx
  | mode
  | setcb
  | poll
deriving DecidableEq, Repr, Inhabited

end Sys2Proof
end

