-- ==== Sys2Proof/Syntax.lean ====
section
/-! DEFINITION. The instructions: one constructor per row of spec/opcode_table.json (30_encoding.md R71, R75). The first
seven are command words; the last two are handler steps, matched on the latch vector. -/

namespace Sys2Proof

/-- The instructions of nRF905-MSED. Operands are already fields, never raw bits: `tx` takes the next mode `nm` and the
collision-avoid bit `ca` (R73), `setcb` the 4-bit callback mask (R74). -/
inductive Instr where
  | pwrdn
  | stby
  | rx
  | tx (nm : NextMode) (ca : Bool)
  | mode
  | setcb (mask : BitVec 4)
  | poll
  | irqDr
  | irqAm
deriving DecidableEq, Repr, Inhabited

end Sys2Proof
end

