-- ==== Sys2Proof/Config.lean ====
section
/-! DEFINITION. What is fixed for a run of the block: the configuration (spec/00_scope.md R4 to R6), the turns of the
agents by which a schedule is written (R11, 30_encoding.md R83), and the free values: the OPEN parameters of
92_eei_decisions.md and the choices no rule makes. The opaque constants have no body: nothing can be proved of their
values. -/

namespace Sys2Proof

/-- The configuration: the six presence parameters (00_scope.md R4), the discipline (R5) and the four tick counts (R6).
Tick counts are natural numbers, so that one above 65535 can be written and is ill formed (R8). -/
structure Config where
  /-- `HAS_PWR` -/
  hasPwr : Bool
  /-- `HAS_STBY` -/
  hasStby : Bool
  /-- `HAS_TXEN` -/
  hasTxen : Bool
  /-- `HAS_CD` -/
  hasCd : Bool
  /-- `HAS_DR` -/
  hasDr : Bool
  /-- `HAS_AM` -/
  hasAm : Bool
  /-- `DISC` -/
  disc : Discipline
  /-- `T_PWRUP` -/
  tPwrup : Nat
  /-- `T_TXPULSE` -/
  tTxpulse : Nat
  /-- `T_SETTLE` -/
  tSettle : Nat
  /-- `T_INIT` -/
  tInit : Nat
deriving DecidableEq, Repr, Inhabited

/-- The default configuration: the tick counts are R6's defaults; all six lines present and the polled discipline are the
configuration of 95_test_vectors.md "unless a vector says otherwise" (DESIGN CHOICE, log entry 2). -/
def Config.default : Config where
  hasPwr := true
  hasStby := true
  hasTxen := true
  hasCd := true
  hasDr := true
  hasAm := true
  disc := .polled
  tPwrup := 3000
  tTxpulse := 700
  tSettle := 14
  tInit := 3000

/-- Whether control line `l` is present (00_scope.md R4). -/
def Config.hasLine (c : Config) : Line → Bool
  | .pwr => c.hasPwr
  | .stby => c.hasStby
  | .txen => c.hasTxen

/-- One agent's turn at the total order of atomic steps (00_scope.md R11, 20_memory.md R60). The host's turn takes the
next word the host has to present; the environment's turns carry their inputs. `reset` is the re-initialization of
70_reset_and_hazards.md R203, with the new configuration and the draws of 10_state.md R39. -/
inductive Turn where
  /-- the host presents its next command word: `HOST_CMD` (10_state.md R36) -/
  | host
  /-- the sequencer: `WAIT_DONE` (40_mode_sequencer.md R102) -/
  | waitDone
  /-- the handler agent: `IRQ.DR` (41_event_dispatcher.md R146) -/
  | irqDr
  /-- the handler agent: `IRQ.AM` (41_event_dispatcher.md R147) -/
  | irqAm
  /-- the environment: `ENV_STATUS(dr, am)` (10_state.md R37) -/
  | envStatus (dr am : Bool)
  /-- the environment: `ENV_CD(c)` (R37) -/
  | envCd (c : Bool)
  /-- the environment: `ENV_TICK` (R37) -/
  | envTick
  /-- the environment: `ENV_LINE(l, v)` (R37) -/
  | envLine (l : Line) (v : Bool)
  /-- a new reset step (70_reset_and_hazards.md R203) -/
  | reset (c : Config) (dr am cd : Bool)
deriving DecidableEq, Repr, Inhabited

/-- Free value: which agent steps when the schedule lists no further turn. R60: "Which agent steps next is free"
(log entry 5). DESIGN CHOICE: it is indexed by `freeCount` alone, so two instances of one system whose schedules are
empty and whose counts agree draw the same turn, where R183 leaves them independent. Unsafe for a claim about such a
system (log entries 5 and 14). -/
opaque Config.freeTurn : Nat → Turn

/-- Free value: the word the host presents when its list of words is empty (log entry 5). DESIGN CHOICE: indexed by
`freeCount` alone, with the same consequence for two instances as `freeTurn` (log entries 5 and 14). -/
opaque Config.freeWord : Nat → Word

/-- Where status levels come from (10_state.md R35: "a pin, or a status register read through Register Transport"). -/
inductive StatusSource where
  | pins
  | registerTransport
deriving DecidableEq, Repr, Inhabited

/-- OPEN parameter `LINE_POLARITY` (92_eei_decisions.md D2): the electrical level of an asserted line. No rule reads it
(log entry 13). -/
opaque Config.linePolarity : Line → Bool

/-- OPEN parameter `STATUS_SOURCE` (92_eei_decisions.md D27). No rule reads it (log entry 13). -/
opaque Config.statusSource : StatusSource

/-- OPEN parameter `TICK_PERIOD` (92_eei_decisions.md D37): the real length of one tick. No rule of the block reads it
(log entry 13). -/
opaque Config.tickPeriod : Nat

end Sys2Proof
end

