-- ==== Sys2Proof/WellFormed.lean ====
section
/-! DEFINITION. Well-formedness. Of a configuration: spec/00_scope.md R8, one check per condition. Of an instruction as a
command: 30_encoding.md R75, the handler entry points are not command words. Every value of `Instr` is otherwise legal:
the reserved operand codes of R72 and R73 have no term in it. -/

namespace Sys2Proof

/-- R8 (1): the standby line is present. -/
def Config.stbyPresent (c : Config) : Bool := c.hasStby

/-- R8 (2): the interrupt-driven discipline needs the data-ready line. -/
def Config.discHasDr (c : Config) : Bool := c.disc != .interruptDriven || c.hasDr

/-- R8 (3): every tick count fits the 16-bit wait counter. -/
def Config.ticksFit (c : Config) : Bool :=
  c.tPwrup ≤ 65535 && c.tTxpulse ≤ 65535 && c.tSettle ≤ 65535 && c.tInit ≤ 65535

/-- The configuration is well formed (R8). -/
def Config.wf (c : Config) : Bool := c.stbyPresent && c.discHasDr && c.ticksFit

/-- Well formed as a command: the instruction has a command word (R71, R75). -/
def Instr.isCommand : Instr → Bool
  | .pwrdn => true
  | .stby => true
  | .rx => true
  | .tx _ _ => true
  | .mode => true
  | .setcb _ => true
  | .poll => true
  | .irqDr => false
  | .irqAm => false

end Sys2Proof
end

