-- ==== Sys2Proof/Decode.lean ====
section
/-! DEFINITION. Decoding and encoding (spec/30_encoding.md R70 to R82), the value codes (R76 to R79), and the opcode
table's rows. Decoding is total on every 8-bit word: an instruction, or a refusal reason by name. The handler steps are
matched on the latch vector (R75) and are no command words. -/

namespace Sys2Proof

/-! ## Value codes -/

/-- The 2-bit code of `nm` (30_encoding.md R73), which is also what `TX_NM` holds (10_state.md R26). -/
def NextMode.code : NextMode → BitVec 2
  | .transmit => 0b00#2
  | .standby => 0b01#2
  | .receive => 0b10#2

/-- The 3-bit mode code (30_encoding.md R77). -/
def Mode.code : Mode → BitVec 3
  | .powerDown => 0#3
  | .standby => 1#3
  | .receive => 2#3
  | .transmit => 3#3
  | .activeUnknown => 4#3

/-- The 2-bit event code, and the event's bit in `CB_MASK` (30_encoding.md R78). -/
def Event.code : Event → BitVec 2
  | .rxComplete => 0#2
  | .rxInvalid => 1#2
  | .txComplete => 2#2
  | .addrMatch => 3#2

/-- The 3-bit sequencer state code (10_state.md R25). -/
def Seq.code : Seq → BitVec 3
  | .idle => 0#3
  | .initWait => 1#3
  | .txPwrupWait => 2#3
  | .txRxWait => 3#3
  | .txSbWait => 4#3

/-- The 3-bit refusal code (60_exceptions.md R171). -/
def RefuseReason.code : RefuseReason → BitVec 3
  | .none => 0#3
  | .illegalOpcode => 1#3
  | .reservedField => 2#3
  | .reservedNextMode => 3#3
  | .discipline => 4#3
  | .config => 5#3

/-- The 4-bit opcode (30_encoding.md R71). -/
def CommandOp.code : CommandOp → BitVec 4
  | .pwrdn => 0x1#4
  | .stby => 0x2#4
  | .rx => 0x3#4
  | .tx => 0x4#4
  | .mode => 0x5#4
  | .setcb => 0x6#4
  | .poll => 0x7#4

/-! ## Decoding -/

/-- What a word decodes to (R80): an instruction or a refusal reason. -/
inductive Decoded where
  | instr (i : Instr)
  | refuse (r : RefuseReason)
deriving DecidableEq, Repr, Inhabited

/-- `OP = w[7:4]` (R70). -/
def opField (w : Word) : BitVec 4 := w.extractLsb' 4 4

/-- `ARG = w[3:0]` (R70). -/
def argField (w : Word) : BitVec 4 := w.extractLsb' 0 4

/-- `nm = ARG[1:0]` (R73), none for the reserved code 0b11. -/
def nmField (arg : BitVec 4) : Option NextMode :=
  match (arg.extractLsb' 0 2).toNat with
  | 0 => some .transmit
  | 1 => some .standby
  | 2 => some .receive
  | _ => none

/-- A command with no operand: its `ARG` must be 0b0000 (R72). -/
def decodeNoOperand (arg : BitVec 4) (i : Instr) : Decoded :=
  if arg = 0 then .instr i else .refuse .reservedField

/-- TX's argument field: `ARG[3]` is checked before `nm` (R73, R80). -/
def decodeTx (arg : BitVec 4) : Decoded :=
  if arg[3] then .refuse .reservedField
  else
    match nmField arg with
    | none => .refuse .reservedNextMode
    | some nm => .instr (.tx nm arg[2])

/-- `Decode(w)` (R80), total on the 256 words. -/
def decodeCommand (w : Word) : Decoded :=
  match (opField w).toNat with
  | 0x1 => decodeNoOperand (argField w) .pwrdn
  | 0x2 => decodeNoOperand (argField w) .stby
  | 0x3 => decodeNoOperand (argField w) .rx
  | 0x4 => decodeTx (argField w)
  | 0x5 => decodeNoOperand (argField w) .mode
  | 0x6 => .instr (.setcb (argField w))
  | 0x7 => decodeNoOperand (argField w) .poll
  | _ => .refuse .illegalOpcode

/-- The handler steps a latch vector `{IRQ_AM_PEND, IRQ_DR_PEND}` enables (R75), in the table's order. With both bits
set both are listed: either may go first (60_exceptions.md R177). -/
def decodeLatches (v : BitVec 2) : List Instr :=
  (if v[0] then [Instr.irqDr] else []) ++ (if v[1] then [Instr.irqAm] else [])

/-! ## Encoding -/

/-- The two formats of the opcode table: a command word (R70) or a latch vector (R75). -/
inductive Encoding where
  | command (w : Word)
  | latches (v : BitVec 2)
deriving DecidableEq, Repr, Inhabited

/-- A command word from its opcode and argument (R70). -/
def commandWord (op : CommandOp) (arg : BitVec 4) : Word := op.code ++ arg

/-- TX's argument field `0 ca nm[1:0]` (R73). -/
def txArg (nm : NextMode) (ca : Bool) : BitVec 4 := (0#1 ++ BitVec.ofBool ca) ++ nm.code

/-- The encoding of an instruction (R71 to R75). -/
def encode : Instr → Encoding
  | .pwrdn => .command (commandWord .pwrdn 0)
  | .stby => .command (commandWord .stby 0)
  | .rx => .command (commandWord .rx 0)
  | .tx nm ca => .command (commandWord .tx (txArg nm ca))
  | .mode => .command (commandWord .mode 0)
  | .setcb mask => .command (commandWord .setcb mask)
  | .poll => .command (commandWord .poll 0)
  | .irqDr => .latches 0b01#2
  | .irqAm => .latches 0b10#2

/-- Decoding of either format; for a latch vector the first handler it enables. -/
def decode : Encoding → Option Instr
  | .command w =>
    match decodeCommand w with
    | .instr i => some i
    | .refuse _ => none
  | .latches v => (decodeLatches v).head?

/-! ## The opcode table -/

/-- A row of spec/opcode_table.json: its format (`true` for CMD, `false` for IRQ), match and mask. -/
structure Row where
  command : Bool
  value : Nat
  mask : Nat
deriving DecidableEq, Repr

/-- The row of each instruction, as spec/opcode_table.json has it. -/
def Instr.row : Instr → Row
  | .pwrdn => ⟨true, 0x10, 0xFF⟩
  | .stby => ⟨true, 0x20, 0xFF⟩
  | .rx => ⟨true, 0x30, 0xFF⟩
  | .tx _ _ => ⟨true, 0x40, 0xF8⟩
  | .mode => ⟨true, 0x50, 0xFF⟩
  | .setcb _ => ⟨true, 0x60, 0xF0⟩
  | .poll => ⟨true, 0x70, 0xFF⟩
  | .irqDr => ⟨false, 0x1, 0x1⟩
  | .irqAm => ⟨false, 0x2, 0x2⟩

/-- Whether an encoding is an instance of a row. -/
def Row.fits (r : Row) : Encoding → Bool
  | .command w => r.command && (w.toNat &&& r.mask) == r.value
  | .latches v => !r.command && (v.toNat &&& r.mask) == r.value

/-- How the host's table word is laid out for the decoder (log entry 9): the IRQ rows' words 1, 2 and 3 are latch
vectors, since as command words they have the reserved opcode 0x0; every other word is a command word. -/
def tableEncoding (w : Nat) : Encoding :=
  if w = 1 ∨ w = 2 ∨ w = 3 then .latches (BitVec.ofNat 2 w) else .command (BitVec.ofNat 8 w)

/-- The instruction the decoder reads from a table word of `nbits` bits; words are 8 bits and latch vectors 2 bits
(R82, R75), so a longer or wider one is none. -/
def decodeTableWord (nbits w : Nat) : Option Instr :=
  if nbits ≤ 8 ∧ w < 256 then decode (tableEncoding w) else none

end Sys2Proof
end

