-- ==== Sys2Proof/Machine/State.lean ====
section
/-! DEFINITION. The machine's state as plain data (spec/10_state.md), the reasons a step can stop, and the state after
reset (R39). -/

namespace Sys2Proof.Machine

/-- A record of `LINE_TRACE` (10_state.md R31): at `time` the block drove `line` to `level`. -/
structure LineRecord where
  time : Nat
  line : Line
  level : Bool
deriving DecidableEq, Repr

/-- A record of `RESP_LOG` (10_state.md R32): at `time` the command `op` responded `value`. -/
structure RespRecord where
  time : Nat
  op : CommandOp
  value : Word
deriving DecidableEq, Repr

/-- A record of `EVT_LOG` (10_state.md R33): at `time`, in context `ctx`, `event` was raised; `delivered` says whether a
callback was registered for it. -/
structure EventRecord where
  time : Nat
  ctx : Ctx
  event : Event
  delivered : Bool
deriving DecidableEq, Repr

/-- The whole state. The fields down to `evtLog` are the spec's; `config` is the argument every rule takes (log entry
1); `host`, `schedule` and `freeCount` are the model's own (log entries 4 and 5). -/
@[ext]
structure State where
  /-- the configuration (00_scope.md R4 to R6), written by a reset step only -/
  config : Config
  /-- `LINE_PWR` (R22) -/
  linePwr : Bool
  /-- `LINE_STBY` (R22) -/
  lineStby : Bool
  /-- `LINE_TXEN` (R22) -/
  lineTxen : Bool
  /-- `SEQ` (R25) -/
  seq : Seq
  /-- `TX_NM` (R26) -/
  txNm : NextMode
  /-- `DLY_TARGET` (R27) -/
  dlyTarget : Ticks
  /-- `DLY_ELAPSED` (R27) -/
  dlyElapsed : Ticks
  /-- `INIT_DONE` (R24) -/
  initDone : Bool
  /-- `PENDING` (R28) -/
  pending : Bool
  /-- `CB_MASK` (R29) -/
  cbMask : BitVec 4
  /-- `POLL_LAST` (R30) -/
  pollLast : Status
  /-- `POLL_INAM` (R30) -/
  pollInam : Bool
  /-- `DR_LVL` (R35) -/
  drLvl : Bool
  /-- `AM_LVL` (R35) -/
  amLvl : Bool
  /-- `CD_LVL` (R35) -/
  cdLvl : Bool
  /-- `IRQ_DR_PEND` (R35) -/
  irqDrPend : Bool
  /-- `IRQ_AM_PEND` (R35) -/
  irqAmPend : Bool
  /-- `REFUSED` (R38) -/
  refused : Bool
  /-- `REFUSE_REASON` (R38) -/
  refuseReason : RefuseReason
  /-- `NOW` (R34) -/
  now : Nat
  /-- `LINE_TRACE` (R31), oldest first -/
  lineTrace : List LineRecord
  /-- `RESP_LOG` (R32), oldest first -/
  respLog : List RespRecord
  /-- `EVT_LOG` (R33), oldest first -/
  evtLog : List EventRecord
  /-- the model's own: the words the host has still to present, in its order (R36) -/
  host : List Word
  /-- the model's own: the turns still to be taken, in the order of the total order of steps (20_memory.md R60) -/
  schedule : List Turn
  /-- the model's own: index of the next free choice -/
  freeCount : Nat
deriving DecidableEq, Repr

/-- Why the machine stops with a fault. The block has no fault state and raises no exception (60_exceptions.md R172,
93_implementation_defined.md), so there is no reason: no step of the model faults. -/
inductive Fault where
deriving DecidableEq, Repr

/-- Why a step has no meaning. -/
inductive Refusal where
  /-- An instruction with no meaning yet. Raised by `exec`'s arms only; no arm raises it in this model. Safe: the machine
  stops where the hardware goes on. -/
  | notModelled (mnemonic : String)
  /-- The run is refused: `REFUSED = 1`, so no step of any agent is enabled (10_state.md R38, 60_exceptions.md R170).
  Raised by `step`. Safe: a refused run satisfies no claim about a next state. -/
  | runRefused (reason : RefuseReason)
deriving DecidableEq, Repr

/-- The state when reset refuses the configuration (70_reset_and_hazards.md R200, 00_scope.md R8): the refusal mark with
reason CONFIG, the trace and the other logs empty. The spec gives the other registers no value there; they are zero
(DESIGN CHOICE, log entry 7). -/
def State.resetRefused (c : Config) : State where
  config := c
  linePwr := false
  lineStby := false
  lineTxen := false
  seq := .idle
  txNm := .transmit
  dlyTarget := 0
  dlyElapsed := 0
  initDone := false
  pending := false
  cbMask := 0
  pollLast := 0
  pollInam := false
  drLvl := false
  amLvl := false
  cdLvl := false
  irqDrPend := false
  irqAmPend := false
  refused := true
  refuseReason := .config
  now := 0
  lineTrace := []
  respLog := []
  evtLog := []
  host := []
  schedule := []
  freeCount := 0

/-- The reset writes that `LINE_TRACE` holds after the reset step, present lines only (10_state.md R39,
70_reset_and_hazards.md R200). -/
def State.resetTrace (c : Config) : List LineRecord :=
  [⟨0, .txen, false⟩, ⟨0, .pwr, false⟩, ⟨0, .stby, true⟩, ⟨0, .pwr, true⟩].filter fun r => c.hasLine r.line

/-- The state after the reset step of a configuration (10_state.md R39). `dr`, `am` and `cd` are the draws of the input
levels; an absent data-ready or address-match line draws 0. -/
def State.resetWith (c : Config) (dr am cd : Bool) : State :=
  if c.wf then
    { config := c
      linePwr := c.hasPwr
      lineStby := true
      lineTxen := false
      seq := .initWait
      txNm := .transmit
      dlyTarget := BitVec.ofNat 16 c.tInit
      dlyElapsed := 0
      initDone := false
      pending := false
      cbMask := 0
      pollLast := 0
      pollInam := false
      drLvl := c.hasDr && dr
      amLvl := c.hasAm && am
      cdLvl := cd
      irqDrPend := false
      irqAmPend := false
      refused := false
      refuseReason := .none
      now := 0
      lineTrace := State.resetTrace c
      respLog := []
      evtLog := []
      host := []
      schedule := []
      freeCount := 0 }
  else State.resetRefused c

/-- The machine right after reset: the default configuration (log entry 2) with the three level draws 0 (log entry 3). -/
def State.reset : State := State.resetWith Config.default false false false

end Sys2Proof.Machine
end

