-- ==== Sys2Proof/Machine/Operands.lean ====
section
/-! DEFINITION. What the instructions read: line levels (spec/20_memory.md R52), carrier-detect (R53), the status word
(R54) and the mode (40_mode_sequencer.md R100). No read changes state (20_memory.md R58). An instruction's own operands
are already fields of `Instr`: `nm`, `ca` and `mask` have no other forms (30_encoding.md R72 to R74). -/

namespace Sys2Proof.Machine

/-- The register of control line `l` (10_state.md R22). -/
def lineReg (l : Line) (s : State) : Bool :=
  match l with
  | .pwr => s.linePwr
  | .stby => s.lineStby
  | .txen => s.lineTxen

/-- `LineRead(l)` (20_memory.md R52). -/
def lineRead (l : Line) (s : State) : Bool := if s.config.hasLine l then lineReg l s else false

/-- `CdRead()` (20_memory.md R53). -/
def cdRead (s : State) : Bool := if s.config.hasCd then s.cdLvl else false

/-- `StatusRead()`, `{DR_LVL, AM_LVL}` (20_memory.md R54). -/
def statusRead (s : State) : Status := BitVec.ofBool s.drLvl ++ BitVec.ofBool s.amLvl

/-- `Mode()` (40_mode_sequencer.md R100): power dominates standby dominates tx-enable. -/
def mode (s : State) : Mode :=
  if s.config.hasPwr && !s.linePwr then .powerDown
  else if lineRead .stby s then .standby
  else if s.config.hasTxen then (if s.lineTxen then .transmit else .receive)
  else .activeUnknown

end Sys2Proof.Machine
end

