-- ==== Sys2Proof/Machine/Ops.lean ====
section
/-! DEFINITION. The named operations the rules are written in (spec/00_scope.md R10): `LineWrite`, `StartWait`,
`Respond`, `Emit` and `raise Refuse`, and the conditions that enable the agents' steps. The block has no exception to
take and no return from one (60_exceptions.md R172, R174, R178); `raiseRefuse` is the shared operation in that place. -/

namespace Sys2Proof.Machine

/-- Set the register of control line `l`, with no trace record. -/
def setLine (l : Line) (v : Bool) (s : State) : State :=
  match l with
  | .pwr => { s with linePwr := v }
  | .stby => { s with lineStby := v }
  | .txen => { s with lineTxen := v }

/-- `LineWrite(l, v)` (20_memory.md R51): an unused line takes no write and no record; a repeated level is recorded. -/
def lineWrite (l : Line) (v : Bool) (s : State) : State :=
  if s.config.hasLine l then { setLine l v s with lineTrace := s.lineTrace ++ [⟨s.now, l, v⟩] } else s

/-- `StartWait(n, q)` (40_mode_sequencer.md R101): `n` as a 16-bit count (log entry 12). -/
def startWait (n : Nat) (q : Seq) (s : State) : State :=
  { s with dlyTarget := BitVec.ofNat 16 n, dlyElapsed := 0, seq := q }

/-- `Respond(op, v)` (10_state.md R32). -/
def respond (op : CommandOp) (v : Word) (s : State) : State :=
  { s with respLog := s.respLog ++ [⟨s.now, op, v⟩], seq := .idle }

/-- Whether a callback is registered for `e`: `CB_MASK[code(e)]` (41_event_dispatcher.md R140). -/
def registered (e : Event) (s : State) : Bool := s.cbMask.getLsbD e.code.toNat

/-- `Emit(e)` in context `ctx` (41_event_dispatcher.md R140): recorded whether or not a callback is registered. The
callback's own code is outside the block (log entry 16). -/
def emit (ctx : Ctx) (e : Event) (s : State) : State :=
  { s with evtLog := s.evtLog ++ [⟨s.now, ctx, e, registered e s⟩] }

/-- `raise Refuse(reason)` (60_exceptions.md R170): the first reason is kept; no other register, line or log changes. -/
def raiseRefuse (r : RefuseReason) (s : State) : State :=
  { s with refuseReason := if s.refused then s.refuseReason else r, refused := true }

/-- `HOST_CMD` is enabled: the command port accepts (10_state.md R36). -/
def portOpen (s : State) : Bool := !s.refused && s.initDone && s.seq == .idle

/-- `WAIT_DONE` is enabled (40_mode_sequencer.md R102). -/
def waitDoneEnabled (s : State) : Bool := !s.refused && s.seq != .idle && decide (s.dlyTarget ≤ s.dlyElapsed)

/-- `IRQ.DR` is enabled (60_exceptions.md R176). -/
def irqDrEnabled (s : State) : Bool := s.irqDrPend && !s.refused

/-- `IRQ.AM` is enabled (60_exceptions.md R176). -/
def irqAmEnabled (s : State) : Bool := s.irqAmPend && !s.refused

end Sys2Proof.Machine
end

