-- ==== Sys2Proof/Machine/Flags.lean ====
section
/-! DEFINITION. The dispatcher's flag computations: POLL's classification of a changed status word with `POLL_INAM`
(spec/41_event_dispatcher.md R145), the two handlers' classification with `PENDING` (R146, R147), and the interrupt
latches' rule (60_exceptions.md R175). -/

namespace Sys2Proof.Machine

/-- POLL's classification of a status word that changed (41_event_dispatcher.md R145). -/
def pollClassify (w : Status) (s : State) : State :=
  match w.toNat with
  | 0b11 => { emit .foreground .rxComplete s with pollInam := false }
  | 0b10 => { emit .foreground .txComplete s with pollInam := false }
  | 0b01 => { emit .foreground .addrMatch s with pollInam := true }
  | _ => if s.pollInam then { emit .foreground .rxInvalid s with pollInam := false } else s

/-- The data-ready handler's classification (41_event_dispatcher.md R146). -/
def drClassify (s : State) : State :=
  if s.amLvl then emit .handler .rxComplete { s with pending := true } else emit .handler .txComplete s

/-- The address-match handler's classification; `PENDING` is always cleared (41_event_dispatcher.md R147). -/
def amClassify (s : State) : State :=
  let classified :=
    if s.amLvl then emit .handler .addrMatch s
    else if s.pending then s
    else emit .handler .rxInvalid s
  { classified with pending := false }

/-- Interrupts are attached: interrupt-driven and initialized (60_exceptions.md R175). -/
def latching (s : State) : Bool := s.config.disc == .interruptDriven && s.initDone

/-- The latch rule inside `ENV_STATUS(dr, am)`, on the old and the new levels (60_exceptions.md R175): a rising edge of
data-ready, any change of address-match; a latch that is already set stays set. -/
def latchEdges (dr am : Bool) (s : State) : State :=
  { s with
    irqDrPend := s.irqDrPend || (latching s && s.config.hasDr && !s.drLvl && dr)
    irqAmPend := s.irqAmPend || (latching s && s.config.hasAm && s.amLvl != am) }

end Sys2Proof.Machine
end

