-- ==== Sys2Proof/Machine/Events.lean ====
section
/-! DEFINITION. The event dispatcher (spec/41_event_dispatcher.md): SETCB, POLL and the two handler steps. -/

namespace Sys2Proof.Machine

/-- SETCB, the source's "register up to four event callbacks" (R141): the last write wins. -/
def execSetcb (mask : BitVec 4) (s : State) : Host.Outcome State Fault Refusal :=
  .next (respond .setcb 0 { s with cbMask := mask })

/-- POLL's effect in the polled discipline (R145): classify a changed sample, remember it, respond. -/
def pollStep (s : State) : State :=
  let w := statusRead s
  let classified := if w = s.pollLast then s else pollClassify w s
  respond .poll 0 { classified with pollLast := w }

/-- POLL, the source's `poll()` (R145): refused with DISCIPLINE in the interrupt-driven discipline, where the step writes
the refusal mark only (60_exceptions.md R170, R171). -/
def execPoll (s : State) : Host.Outcome State Fault Refusal :=
  match s.config.disc with
  | .interruptDriven => .next (raiseRefuse .discipline s)
  | .polled => .next (pollStep s)

/-- IRQ.DR, the data-ready handler `onDataReady` (R146): the latch is cleared first (60_exceptions.md R176). -/
def execIrqDr (s : State) : Host.Outcome State Fault Refusal :=
  .next (drClassify { s with irqDrPend := false })

/-- IRQ.AM, the address-match handler `onAddressMatch` (R147). -/
def execIrqAm (s : State) : Host.Outcome State Fault Refusal :=
  .next (amClassify { s with irqAmPend := false })

end Sys2Proof.Machine
end

