-- ==== Sys2Proof/Machine/Sequencer.lean ====
section
/-! DEFINITION. The mode sequencer (spec/40_mode_sequencer.md): the accept steps of PWRDN, STBY, RX, MODE and TX, and the
completions of the timed waits. Each meaning is the accept step of the decoded command; when it is enabled is a
condition of the `HOST_CMD` step (10_state.md R36), tested where a turn is taken. -/

namespace Sys2Proof.Machine

/-- PWRDN, the source's `powerDown()` (R103). -/
def execPwrdn (s : State) : Host.Outcome State Fault Refusal :=
  .next (respond .pwrdn 0 (lineWrite .pwr false s))

/-- STBY, the source's `enterStandby()` (R104). -/
def execStby (s : State) : Host.Outcome State Fault Refusal :=
  .next (respond .stby 0 (lineWrite .pwr true (lineWrite .stby true s)))

/-- RX, the source's `enterReceive()` (R105). -/
def execRx (s : State) : Host.Outcome State Fault Refusal :=
  .next (respond .rx 0 (lineWrite .pwr true (lineWrite .stby false (lineWrite .txen false s))))

/-- MODE, the source's `currentMode()` (R106): `zext_8(code(Mode()))`. -/
def execMode (s : State) : Host.Outcome State Fault Refusal :=
  .next (respond .mode ((mode s).code.setWidth 8) s)

/-- `TxStart(nm, m)`, steps 3 to 7 of `beginTransmit` (R112); `m` is the mode the TX works from. -/
def txStart (nm : NextMode) (m : Mode) (s : State) : State :=
  let driven := lineWrite .txen true s
  let started := if m = .standby then lineWrite .stby false driven else driven
  match nm with
  | .receive =>
    if m = .standby then startWait s.config.tTxpulse .txRxWait started
    else startWait s.config.tSettle .txRxWait started
  | .standby => startWait s.config.tSettle .txSbWait started
  | .transmit => respond .tx 1 started

/-- TX's accept step when the mode is POWER_DOWN (R110 step 1): power up, and wait the settle unless the next mode is
TRANSMIT. -/
def txFromPowerDown (nm : NextMode) (s : State) : State :=
  let powered := lineWrite .pwr true (lineWrite .stby true s)
  if nm = .transmit then txStart nm .standby powered
  else startWait s.config.tPwrup .txPwrupWait { powered with txNm := nm }

/-- TX, the source's `beginTransmit(nextMode, collisionAvoid)`, accept step (R110). A busy channel aborts with response 0
and no line written (R116). -/
def execTx (nm : NextMode) (ca : Bool) (s : State) : Host.Outcome State Fault Refusal :=
  if mode s = .powerDown then .next (txFromPowerDown nm s)
  else if ca && cdRead s then .next (respond .tx 0 s)
  else .next (txStart nm (mode s) s)

/-- `InitDone()` (70_reset_and_hazards.md R201): no response. -/
def initDoneStep (s : State) : State := { s with initDone := true, seq := .idle }

/-- `WAIT_DONE`'s completion rule for the current `SEQ` (R102, R111, R113, R114). Nothing is to complete in IDLE. -/
def waitComplete (s : State) : State :=
  match s.seq with
  | .idle => s
  | .initWait => initDoneStep s
  | .txPwrupWait => txStart s.txNm .standby s
  | .txRxWait => respond .tx 1 (lineWrite .txen false s)
  | .txSbWait => respond .tx 1 (lineWrite .stby true s)

end Sys2Proof.Machine
end

