-- ==== Sys2Proof/Machine/Dispatch.lean ====
section
/-! DEFINITION. One arm per instruction: which meaning runs. -/

namespace Sys2Proof.Machine

def exec (i : Instr) (s : State) : Host.Outcome State Fault Refusal :=
  match i with
  | .pwrdn => Sys2Proof.Machine.execPwrdn s
  | .stby => Sys2Proof.Machine.execStby s
  | .rx => Sys2Proof.Machine.execRx s
  | .tx nm ca => Sys2Proof.Machine.execTx nm ca s
  | .mode => Sys2Proof.Machine.execMode s
  | .setcb mask => Sys2Proof.Machine.execSetcb mask s
  | .poll => Sys2Proof.Machine.execPoll s
  | .irqDr => Sys2Proof.Machine.execIrqDr s
  | .irqAm => Sys2Proof.Machine.execIrqAm s

end Sys2Proof.Machine
end

