-- ==== Sys2Proof/Machine/Environment.lean ====
section
/-! DEFINITION. The environment's actions (spec/10_state.md R37) and the reset step as a procedure
(70_reset_and_hazards.md R200). -/

namespace Sys2Proof.Machine

/-- `ENV_STATUS(dr, am)`: an absent status line is held at 0; the latch rule sees the old and the new levels (R37). -/
def envStatus (dr am : Bool) (s : State) : State :=
  let dr' := s.config.hasDr && dr
  let am' := s.config.hasAm && am
  { latchEdges dr' am' s with drLvl := dr', amLvl := am' }

/-- `ENV_CD(c)` (R37). -/
def envCd (c : Bool) (s : State) : State := { s with cdLvl := c }

/-- `min(t + 1, 65535)` on the 16-bit counter (R27, R37). -/
def tickUp (t : Ticks) : Ticks := BitVec.ofNat 16 (min (t.toNat + 1) 65535)

/-- `ENV_TICK` (R37). -/
def envTick (s : State) : State := { s with now := s.now + 1, dlyElapsed := tickUp s.dlyElapsed }

/-- `ENV_LINE(l, v)`: a present line changes from outside, with no trace record (R37). -/
def envLine (l : Line) (v : Bool) (s : State) : State := if s.config.hasLine l then setLine l v s else s

/-- The reset step as 70_reset_and_hazards.md R200 writes it: refuse an ill-formed configuration; else start from R39's
registers with `LINE_TRACE` empty, make the initialization's line writes in order, and start the settle wait. -/
def resetStep (c : Config) (dr am cd : Bool) : State :=
  if c.wf then
    let start := { State.resetWith c dr am cd with lineTrace := [] }
    let driven :=
      lineWrite .pwr true (lineWrite .stby true (lineWrite .pwr false (lineWrite .txen false start)))
    startWait c.tInit .initWait { driven with initDone := false }
  else State.resetRefused c

end Sys2Proof.Machine
end

