-- ==== Sys2Proof/Machine/Turns.lean ====
section
/-! DEFINITION. Taking one agent's turn (spec/00_scope.md R11, 20_memory.md R60): the enabling condition of the step and
its effect. A step that is not enabled is a hold (60_exceptions.md R173): the turn changes nothing, and a host's word
goes on waiting at the host. Where the schedule or the host's words run out, the choice is a free value. -/

namespace Sys2Proof.Machine

/-- The block decodes a command word and takes the accept step, or refuses it, in one step (10_state.md R36,
30_encoding.md R80). -/
def acceptWord (w : Word) (s : State) : Host.Outcome State Fault Refusal :=
  match decodeCommand w with
  | .instr i => exec i s
  | .refuse r => .next (raiseRefuse r s)

/-- The host's turn, `HOST_CMD` (10_state.md R36). -/
def hostTurn (s : State) : Host.Outcome State Fault Refusal :=
  if portOpen s then
    match s.host with
    | w :: ws => acceptWord w { s with host := ws }
    | [] => acceptWord (Config.freeWord s.freeCount) { s with freeCount := s.freeCount + 1 }
  else .next s

/-- The sequencer's turn, `WAIT_DONE` (40_mode_sequencer.md R102). -/
def waitDoneTurn (s : State) : State := if waitDoneEnabled s then waitComplete s else s

/-- The handler's turn `IRQ.DR` (60_exceptions.md R176). -/
def irqDrTurn (s : State) : Host.Outcome State Fault Refusal := if irqDrEnabled s then exec .irqDr s else .next s

/-- The handler's turn `IRQ.AM` (60_exceptions.md R176). -/
def irqAmTurn (s : State) : Host.Outcome State Fault Refusal := if irqAmEnabled s then exec .irqAm s else .next s

/-- A new reset step (70_reset_and_hazards.md R203): all of the block's state is discarded; what the model's own lists
still hold is the new run's (log entry 8). -/
def resetTurn (c : Config) (dr am cd : Bool) (s : State) : State :=
  { resetStep c dr am cd with host := s.host, schedule := s.schedule, freeCount := s.freeCount }

/-- One turn. -/
def takeTurn (t : Turn) (s : State) : Host.Outcome State Fault Refusal :=
  match t with
  | .host => hostTurn s
  | .waitDone => .next (waitDoneTurn s)
  | .irqDr => irqDrTurn s
  | .irqAm => irqAmTurn s
  | .envStatus dr am => .next (envStatus dr am s)
  | .envCd c => .next (envCd c s)
  | .envTick => .next (envTick s)
  | .envLine l v => .next (envLine l v s)
  | .reset c dr am cd => .next (resetTurn c dr am cd s)

/-- The next turn of the schedule, and the state without it; a free choice when the schedule is empty (log entry 5). -/
def nextTurn (s : State) : Turn × State :=
  match s.schedule with
  | t :: ts => (t, { s with schedule := ts })
  | [] => (Config.freeTurn s.freeCount, { s with freeCount := s.freeCount + 1 })

/-- Place an encoding so that the very next turn runs it (log entry 9): a command word first among the host's words with
the port open, or a latch vector with its handler's turn. -/
def placeEncoding (e : Encoding) (s : State) : State :=
  match e with
  | .command w =>
    { s with
      refused := false
      refuseReason := .none
      initDone := true
      seq := .idle
      host := w :: s.host
      schedule := .host :: s.schedule }
  | .latches v =>
    { s with
      refused := false
      refuseReason := .none
      irqDrPend := v[0]
      irqAmPend := v[1]
      schedule := (if v[0] then .irqDr else .irqAm) :: s.schedule }

end Sys2Proof.Machine
end

