-- ==== Sys2Proof/Machine/Step.lean ====
section
/-! DEFINITION. One step of the machine: from a refused state no step is enabled (spec/10_state.md R38); else the next
turn is taken. -/

namespace Sys2Proof.Machine

/-- One step. -/
def step (s : State) : Host.Outcome State Fault Refusal :=
  if s.refused then .refused (.runRefused s.refuseReason)
  else takeTurn (nextTurn s).1 (nextTurn s).2

/-- `s` with the table word placed where the next step takes its instruction (log entry 9). -/
def State.withFetchWord (s : State) (_nbits w : Nat) : State := placeEncoding (tableEncoding w) s

end Sys2Proof.Machine
end

