-- ==== Sys2Proof/Machine/Assembler.lean ====
section
/-! DEFINITION. The assembler form of a program (spec/30_encoding.md R83, R84): a list of lines, one step per line; each
mnemonic is one command word or one step. A program is loaded by adding its words to the host's and its turns to the
schedule (log entry 9). What separates the tokens of a line is spaces and commas (log entry 17). -/

namespace Sys2Proof.Machine

/-- A line of a program (R83). -/
inductive AsmLine where
  | command (i : Instr)
  | envStatus (dr am : Bool)
  | envCd (c : Bool)
  | envTick (n : Nat)
  | envLine (l : Line) (v : Bool)
  | waitDone
  | irqDr
  | irqAm
deriving DecidableEq, Repr

/-- The command words of a line. -/
def lineWords : AsmLine → List Word
  | .command i =>
    match encode i with
    | .command w => [w]
    | .latches _ => []
  | _ => []

/-- The turns of a line. `ENV_TICK n` is `n` ticks. -/
def lineTurns : AsmLine → List Turn
  | .command _ => [.host]
  | .envStatus dr am => [.envStatus dr am]
  | .envCd c => [.envCd c]
  | .envTick n => List.replicate n .envTick
  | .envLine l v => [.envLine l v]
  | .waitDone => [.waitDone]
  | .irqDr => [.irqDr]
  | .irqAm => [.irqAm]

/-- Load a program. -/
def loadProgram (p : List AsmLine) (s : State) : State :=
  { s with host := s.host ++ p.flatMap lineWords, schedule := s.schedule ++ p.flatMap lineTurns }

/-! ## The text of a line -/

/-- The tokens of a line: what stands between spaces and commas. -/
def tokens (line : String) : List String :=
  ((line.toList.splitOnP fun c => c == ' ' || c == ',').filter fun t => !t.isEmpty).map String.ofList

/-- A digit's value, in any base up to 16. -/
def digitValue (c : Char) : Option Nat :=
  if '0' ≤ c ∧ c ≤ '9' then some (c.toNat - '0'.toNat)
  else if 'a' ≤ c ∧ c ≤ 'f' then some (c.toNat - 'a'.toNat + 10)
  else if 'A' ≤ c ∧ c ≤ 'F' then some (c.toNat - 'A'.toNat + 10)
  else none

/-- The value of a list of digits in a base, most significant first. -/
def digitsValue (base : Nat) (acc : Nat) : List Char → Option Nat
  | [] => some acc
  | c :: cs =>
    match digitValue c with
    | some d => if d < base then digitsValue base (acc * base + d) cs else none
    | none => none

/-- A number: decimal, or hexadecimal after `0x`, or binary after `0b` (00_scope.md R9). -/
def parseNumber (t : String) : Option Nat :=
  match t.toList with
  | [] => none
  | ['0', 'x'] => none
  | ['0', 'b'] => none
  | '0' :: 'x' :: ds => digitsValue 16 0 ds
  | '0' :: 'b' :: ds => digitsValue 2 0 ds
  | ds => digitsValue 10 0 ds

/-- A bit, 0 or 1. -/
def parseBit (t : String) : Option Bool :=
  match parseNumber t with
  | some 0 => some false
  | some 1 => some true
  | _ => none

/-- An event's name (30_encoding.md R78). -/
def parseEvent (t : String) : Option Event :=
  match t with
  | "RX_COMPLETE" => some .rxComplete
  | "RX_INVALID" => some .rxInvalid
  | "TX_COMPLETE" => some .txComplete
  | "ADDR_MATCH" => some .addrMatch
  | _ => none

/-- The mask bit of an event. -/
def eventBit (e : Event) : BitVec 4 := 1#4 <<< e.code.toNat

/-- A `|`-separated list of event names as a mask. -/
def parseEvents (names : List String) : Option (BitVec 4) :=
  names.foldl
    (fun acc t =>
      match acc, parseEvent t with
      | some m, some e => some (m ||| eventBit e)
      | _, _ => none)
    (some 0)

/-- A callback mask: a 4-bit number or a list of event names (R83). -/
def parseMask (t : String) : Option (BitVec 4) :=
  match parseNumber t with
  | some n => if n < 16 then some (BitVec.ofNat 4 n) else none
  | none => parseEvents ((t.toList.splitOn '|').map String.ofList)

/-- A next mode's name (R83). -/
def parseNextMode (t : String) : Option NextMode :=
  match t with
  | "TRANSMIT" => some .transmit
  | "STANDBY" => some .standby
  | "RECEIVE" => some .receive
  | _ => none

/-- A control line's name. -/
def parseLineName (t : String) : Option Line :=
  match t with
  | "PWR" => some .pwr
  | "STBY" => some .stby
  | "TXEN" => some .txen
  | _ => none

/-- One line of a program's text (R83). -/
def parseLine (text : String) : Option AsmLine :=
  match tokens text with
  | ["PWRDN"] => some (.command .pwrdn)
  | ["STBY"] => some (.command .stby)
  | ["RX"] => some (.command .rx)
  | ["MODE"] => some (.command .mode)
  | ["POLL"] => some (.command .poll)
  | ["SETCB", mask] => (parseMask mask).map fun m => .command (.setcb m)
  | ["TX", nm, ca] =>
    match parseNextMode nm, parseBit ca with
    | some n, some c => some (.command (.tx n c))
    | _, _ => none
  | ["ENV_STATUS", dr, am] =>
    match parseBit dr, parseBit am with
    | some d, some a => some (.envStatus d a)
    | _, _ => none
  | ["ENV_CD", c] => (parseBit c).map .envCd
  | ["ENV_TICK"] => some (.envTick 1)
  | ["ENV_TICK", n] => (parseNumber n).map .envTick
  | ["ENV_LINE", l, v] =>
    match parseLineName l, parseBit v with
    | some l', some v' => some (.envLine l' v')
    | _, _ => none
  | ["WAIT_DONE"] => some .waitDone
  | ["IRQ.DR"] => some .irqDr
  | ["IRQ.AM"] => some .irqAm
  | _ => none

end Sys2Proof.Machine
end

