-- ==== Sys2Proof/Machine/Instances.lean ====
section
/-! DEFINITION. Several instances of the block in one system (spec/60_exceptions.md R183): each owns all its state, no
register is shared, and they run as independent agents. The machine behind the host's interface is one instance (log
entry 14). -/

namespace Sys2Proof.Machine

/-- A system of instances. -/
abbrev System := List State

/-- Instance `k` of a system takes one step; the others stand still. A system with no instance `k` stands still.
DESIGN CHOICE: every instance draws from the same free values, by its own `freeCount`. Two instances with empty lists and
equal counts so draw the same turn and word, where R60 and R183 leave each instance's own free. Unsafe for a claim about
them; instances with listed turns and words take any pair of them (log entries 5 and 14). -/
def stepInstance (k : Nat) (sys : System) : Host.Outcome System Fault Refusal :=
  match sys[k]? with
  | none => .next sys
  | some s =>
    match step s with
    | .next t => .next (sys.set k t)
    | .fault r => .fault r
    | .refused r => .refused r

end Sys2Proof.Machine
end

