-- ==== Sys2Proof/Safety.lean ====
section
/-! DEFINITION. What claims about the machine are stated in: what the host observes, runs of turns, fair runs, the
invariants of the block, and the spec's tables as functions. -/

namespace Sys2Proof.Machine

/-! ## Observation -/

/-- What the host observes (00_scope.md R12): the three logs, the lines and `INIT_DONE`. -/
structure Observation where
  lineTrace : List LineRecord
  respLog : List RespRecord
  evtLog : List EventRecord
  linePwr : Bool
  lineStby : Bool
  lineTxen : Bool
  initDone : Bool
deriving DecidableEq, Repr

/-- The host's view of a state (R12). -/
def observe (s : State) : Observation :=
  ⟨s.lineTrace, s.respLog, s.evtLog, s.linePwr, s.lineStby, s.lineTxen, s.initDone⟩

/-- The electrical level of control line `l` (92_eei_decisions.md D2): `LINE_POLARITY` is the level of an asserted line.
Outside the block (00_scope.md R3 (b)); no rule reads it. -/
def electricalLevel (l : Line) (s : State) : Bool := lineReg l s == Config.linePolarity l

/-- The least real time of a wait of `n` ticks (70_reset_and_hazards.md R217). -/
def minRealTime (n : Nat) : Nat := (n - 1) * Config.tickPeriod

/-! ## Runs -/

/-- Whether a turn is a new reset step. -/
def isReset : Turn → Bool
  | .reset _ _ _ _ => true
  | _ => false

/-- Whether a turn changes a control line from outside. -/
def isEnvLine : Turn → Bool
  | .envLine _ _ => true
  | _ => false

/-- Whether a turn is a tick. -/
def isTick : Turn → Bool
  | .envTick => true
  | _ => false

/-- The ticks of a list of turns. -/
def tickCount (ts : List Turn) : Nat := ts.countP isTick

/-- Take a list of turns one after another, as `step` takes those of the schedule. -/
def runTurns : List Turn → State → Host.Outcome State Fault Refusal
  | [], s => .next s
  | t :: ts, s =>
    if s.refused then .refused (.runRefused s.refuseReason)
    else
      match takeTurn t s with
      | .next s' => runTurns ts s'
      | .fault r => .fault r
      | .refused r => .refused r

/-- An infinite run: the turns `turn` and the states `st`, never refused and never reset. -/
structure IsRun (turn : Nat → Turn) (st : Nat → State) : Prop where
  live : ∀ n, (st n).refused = false
  noReset : ∀ n, isReset (turn n) = false
  taken : ∀ n, takeTurn (turn n) (st n) = .next (st (n + 1))

/-- Weak fairness (00_scope.md R13): ticks occur without end, and a sequencer or handler step that stays enabled is
eventually taken. -/
structure WeaklyFair (turn : Nat → Turn) (st : Nat → State) : Prop where
  ticks : ∀ n, ∃ m, n ≤ m ∧ turn m = .envTick
  waitDone : ∀ n, (∀ m, n ≤ m → waitDoneEnabled (st m) = true) → ∃ m, n ≤ m ∧ turn m = .waitDone
  irqDr : ∀ n, (∀ m, n ≤ m → irqDrEnabled (st m) = true) → ∃ m, n ≤ m ∧ turn m = .irqDr
  irqAm : ∀ n, (∀ m, n ≤ m → irqAmEnabled (st m) = true) → ∃ m, n ≤ m ∧ turn m = .irqAm

/-! ## Invariants -/

/-- The length in ticks that each wait may have (40_mode_sequencer.md R101, R110, R112; 70_reset_and_hazards.md
R200). -/
def waitLengths (c : Config) : Seq → List Nat
  | .idle => []
  | .initWait => [c.tInit]
  | .txPwrupWait => [c.tPwrup]
  | .txRxWait => [c.tTxpulse, c.tSettle]
  | .txSbWait => [c.tSettle]

/-- What holds of the block's state after reset and after every step. -/
structure BlockInv (s : State) : Prop where
  /-- a run that is not refused has a well-formed configuration (00_scope.md R8) -/
  configWf : s.refused = false → s.config.wf = true
  /-- the reason is NONE exactly while the run is not refused (60_exceptions.md R170, R171) -/
  reason : s.refuseReason = .none ↔ s.refused = false
  /-- an unused control line is hardwired to 0 (10_state.md R22) -/
  unusedLines : ∀ l, s.config.hasLine l = false → lineReg l s = false
  /-- an absent data-ready line is held at 0 and has no interrupt (R37, 60_exceptions.md R175) -/
  unusedDr : s.config.hasDr = false → s.drLvl = false ∧ s.irqDrPend = false
  /-- an absent address-match line is held at 0 and has no interrupt (R37, 60_exceptions.md R175) -/
  unusedAm : s.config.hasAm = false → s.amLvl = false ∧ s.irqAmPend = false
  /-- INIT_WAIT is the reset settle wait only (R24, R25) -/
  initWait : s.seq = .initWait → s.initDone = false
  /-- before `INIT_DONE` the sequencer is in the reset settle wait (R24) -/
  notInit : s.refused = false → s.initDone = false → s.seq = .initWait
  /-- latches are set only when interrupt-driven and initialized (60_exceptions.md R175) -/
  latches : s.irqDrPend = true ∨ s.irqAmPend = true → s.config.disc = .interruptDriven ∧ s.initDone = true
  /-- only the interrupt-driven discipline uses `PENDING` (R28) -/
  pending : s.pending = true → s.config.disc = .interruptDriven
  /-- only the polled discipline uses `POLL_LAST` and `POLL_INAM` (R30) -/
  pollRegs : s.pollLast ≠ 0 ∨ s.pollInam = true → s.config.disc = .polled
  /-- the polled flag is set exactly when the remembered status is address-match only (41_event_dispatcher.md R145;
  DEDUCED, log entry 18) -/
  pollFlag : s.pollInam = true ↔ s.pollLast = 0b01#2
  /-- a TX that waits the power-up settle goes on to STANDBY or RECEIVE (40_mode_sequencer.md R111) -/
  txNm : s.seq = .txPwrupWait → s.txNm ≠ .transmit ∧ s.config.hasPwr = true
  /-- the wait that runs has one of its lengths (40_mode_sequencer.md R101) -/
  target : s.seq ≠ .idle → ∃ n ∈ waitLengths s.config s.seq, s.dlyTarget = BitVec.ofNat 16 n

/-- The logs' times (10_state.md R34): none lies after `NOW`, and each log is in the order of time. -/
structure LogTimes (s : State) : Prop where
  lineTrace : (s.lineTrace.map LineRecord.time).Pairwise (· ≤ ·) ∧ ∀ r ∈ s.lineTrace, r.time ≤ s.now
  respLog : (s.respLog.map RespRecord.time).Pairwise (· ≤ ·) ∧ ∀ r ∈ s.respLog, r.time ≤ s.now
  evtLog : (s.evtLog.map EventRecord.time).Pairwise (· ≤ ·) ∧ ∀ r ∈ s.evtLog, r.time ≤ s.now

/-- The mode while a TX transmits: TRANSMIT, or ACTIVE_UNKNOWN without a tx-enable line (40_mode_sequencer.md R115). -/
def transmitMode (c : Config) : Mode := if c.hasTxen then .transmit else .activeUnknown

/-- The mode a successful TX ends in (40_mode_sequencer.md R115). -/
def txTarget (c : Config) : NextMode → Mode
  | .transmit => transmitMode c
  | .standby => .standby
  | .receive => if c.hasTxen then .receive else .activeUnknown

/-- The lines during a TX's waits, as long as nothing outside changes them: STANDBY while it powers up, transmitting
after (40_mode_sequencer.md R115). -/
structure TxLines (s : State) : Prop where
  stby : s.config.hasStby = true
  pwrup : s.seq = .txPwrupWait → mode s = .standby
  rx : s.seq = .txRxWait → mode s = transmitMode s.config
  sb : s.seq = .txSbWait → mode s = transmitMode s.config

/-! ## Tables of the spec as functions -/

/-- The trace records of a list of line writes: one for each write to a present line, in order (20_memory.md R51). -/
def writesTo (s : State) : List (Line × Bool) → List LineRecord
  | [] => []
  | (l, v) :: ws => if s.config.hasLine l then ⟨s.now, l, v⟩ :: writesTo s ws else writesTo s ws

/-- The level of a register of line `l` after writes whose last to `l` is `v`: unchanged when the line is unused. -/
def driven (s : State) (l : Line) (v : Bool) : Bool := if s.config.hasLine l then v else lineReg l s

/-- The least number of ticks from a TX's accept step to its response (70_reset_and_hazards.md R220). -/
def minTxTicks (c : Config) (m : Mode) (nm : NextMode) : Nat :=
  match m, nm with
  | _, .transmit => 0
  | .powerDown, .standby => c.tPwrup + c.tSettle
  | .powerDown, .receive => c.tPwrup + c.tTxpulse
  | .standby, .receive => c.tTxpulse
  | _, _ => c.tSettle

/-- The polled classification (41_event_dispatcher.md R148): the event raised and the new `POLL_INAM`. -/
def pollRow (sample last : Status) (inam : Bool) : Option Event × Bool :=
  if sample = last then (none, inam)
  else if sample = 0b11#2 then (some .rxComplete, false)
  else if sample = 0b10#2 then (some .txComplete, false)
  else if sample = 0b01#2 then (some .addrMatch, true)
  else if inam then (some .rxInvalid, false)
  else (none, false)

/-- IRQ.DR's classification (41_event_dispatcher.md R149): the event and the new `PENDING`. -/
def drRow (am pending : Bool) : Event × Bool := if am then (.rxComplete, true) else (.txComplete, pending)

/-- IRQ.AM's classification (41_event_dispatcher.md R149): the event, if any; `PENDING` is cleared. -/
def amRow (am pending : Bool) : Option Event :=
  if am then some .addrMatch else if pending then none else some .rxInvalid

/-- The record that raising `e` in context `ctx` appends (41_event_dispatcher.md R140). -/
def eventRecord (s : State) (ctx : Ctx) (e : Event) : EventRecord := ⟨s.now, ctx, e, s.cbMask.getLsbD e.code.toNat⟩

/-! ## Discipline equivalence -/

/-- The nominal transitions of the status word, written (DR, AM) (41_event_dispatcher.md R152). -/
def nominal : Bool × Bool → Bool × Bool → Bool
  | (false, false), (false, true) => true
  | (false, false), (true, false) => true
  | (false, true), (false, false) => true
  | (false, true), (true, true) => true
  | (true, false), (false, false) => true
  | (true, true), (false, false) => true
  | _, _ => false

/-- A path of status words that makes nominal transitions only, from a status word. -/
def nominalPath (now : Bool × Bool) : List (Bool × Bool) → Bool
  | [] => true
  | x :: xs => nominal now x && nominalPath x xs

/-- The polled run of a path: one POLL after each `ENV_STATUS`. -/
def polledTurns (path : List (Bool × Bool)) : List Turn := path.flatMap fun x => [.envStatus x.1 x.2, .host]

/-- The interrupt-driven run of a path: every enabled handler step after each `ENV_STATUS`, in the order `drFirst` gives
for that point of the path. A handler's turn whose latch is clear is no step. -/
def handlerTurns (drFirst : Nat → Bool) (k : Nat) : List (Bool × Bool) → List Turn
  | [] => []
  | x :: xs =>
    .envStatus x.1 x.2 ::
      ((if drFirst k then [.irqDr, .irqAm] else [.irqAm, .irqDr]) ++ handlerTurns drFirst (k + 1) xs)

/-- The event codes of a log. -/
def events (s : State) : List Event := s.evtLog.map EventRecord.event

end Sys2Proof.Machine
end

