-- ==== Sys2Proof/Certificates/Slice0/Obligations.lean ====
section
/-! DEFINITION. The statements about nRF905-MSED for the provers. Each cites the rule of spec/ it formalises; OBLIGATIONS.json
lists them. A record update names every field that changes, so each such equation is the frame too. -/

open Sys2Proof Sys2Proof.Machine

/-! ## Encoding -/

/-- R72: PWRDN, STBY, RX, MODE and POLL have one legal word each; any other ARG is refused RESERVED_FIELD. -/
def Obligations.NoOperandCommandsHaveOneWord : Prop :=
  ∀ w : Word,
    (decodeCommand w = .instr .pwrdn ↔ w = 0x10#8) ∧
    (decodeCommand w = .instr .stby ↔ w = 0x20#8) ∧
    (decodeCommand w = .instr .rx ↔ w = 0x30#8) ∧
    (decodeCommand w = .instr .mode ↔ w = 0x50#8) ∧
    (decodeCommand w = .instr .poll ↔ w = 0x70#8) ∧
    ((w.toNat / 16 = 1 ∨ w.toNat / 16 = 2 ∨ w.toNat / 16 = 3 ∨ w.toNat / 16 = 5 ∨ w.toNat / 16 = 7) →
      w.toNat % 16 ≠ 0 → decodeCommand w = .refuse .reservedField)

/-- R73: TX's argument `0 ca nm[1:0]`, with its two refusals, and its six legal words. -/
def Obligations.TxWordsCarryNextModeAndCollisionBit : Prop :=
  (∀ w : Word, w.toNat / 16 = 4 →
    (w[3] = true → decodeCommand w = .refuse .reservedField) ∧
    (w[3] = false → w.toNat % 4 = 3 → decodeCommand w = .refuse .reservedNextMode) ∧
    (w[3] = false → w.toNat % 4 = 0 → decodeCommand w = .instr (.tx .transmit w[2])) ∧
    (w[3] = false → w.toNat % 4 = 1 → decodeCommand w = .instr (.tx .standby w[2])) ∧
    (w[3] = false → w.toNat % 4 = 2 → decodeCommand w = .instr (.tx .receive w[2]))) ∧
  (∀ w : Word, (∃ nm ca, decodeCommand w = .instr (.tx nm ca)) ↔
    w ∈ [0x40#8, 0x41#8, 0x42#8, 0x44#8, 0x45#8, 0x46#8])

/-- R74: SETCB takes `mask = ARG[3:0]`, written unchanged into CB_MASK; bit k registers event k; all 16 are legal, and the
SETCB words are 0x60 to 0x6F. -/
def Obligations.SetcbWordWritesItsMask : Prop :=
  (∀ (mask : BitVec 4) (s : State),
    decodeCommand (BitVec.ofNat 8 (0x60 + mask.toNat)) = .instr (.setcb mask) ∧
    ∃ t, exec (.setcb mask) s = .next t ∧ t.cbMask = mask ∧
      registered .rxComplete t = mask[0] ∧ registered .rxInvalid t = mask[1] ∧
      registered .txComplete t = mask[2] ∧ registered .addrMatch t = mask[3]) ∧
  (∀ w : Word, (∃ mask, decodeCommand w = .instr (.setcb mask)) ↔ 0x60 ≤ w.toNat ∧ w.toNat ≤ 0x6F)

/-- R81: exactly 27 of the 256 words are legal. -/
def Obligations.LegalWordsAreTwentySeven : Prop :=
  (List.range 256).filter (fun n => (decode (.command (BitVec.ofNat 8 n))).isSome) =
    [0x10, 0x20, 0x30, 0x40, 0x41, 0x42, 0x44, 0x45, 0x46, 0x50,
     0x60, 0x61, 0x62, 0x63, 0x64, 0x65, 0x66, 0x67, 0x68, 0x69, 0x6A, 0x6B, 0x6C, 0x6D, 0x6E, 0x6F, 0x70]

/-- The decoder against words written out from 95_test_vectors.md L2.2. -/
def Obligations.DecodesWordsOfTheSpec : Prop :=
  decodeCommand 0b00010000#8 = .instr .pwrdn ∧
  decodeCommand 0b01000110#8 = .instr (.tx .receive true) ∧
  decodeCommand 0b01000001#8 = .instr (.tx .standby false) ∧
  decodeCommand 0b01101001#8 = .instr (.setcb 0b1001#4) ∧
  decodeCommand 0b01110000#8 = .instr .poll ∧
  decodeCommand 0x9C#8 = .refuse .illegalOpcode ∧
  decodeCommand 0x4B#8 = .refuse .reservedField ∧
  decodeCommand 0x47#8 = .refuse .reservedNextMode

/-- Decoding an encoded command gives it back, with every operand at every value. -/
def Obligations.DecodeOfEncodedCommand : Prop :=
  ∀ i : Instr, i.isCommand = true → ∃ w, encode i = .command w ∧ decodeCommand w = .instr i

/-- Each legal word has one meaning, and encoding it gives the word back: no legal word has two spellings. -/
def Obligations.EncodeOfDecodedWord : Prop :=
  ∀ (w : Word) (i : Instr), decodeCommand w = .instr i → i.isCommand = true ∧ encode i = .command w

/-- R75: the handler entry points are no command words; each is matched on its bit of the latch vector, and with both
bits set both may run. The step runs each one when its latch is set. -/
def Obligations.HandlersAreMatchedOnTheLatchVector : Prop :=
  (∀ w : Word, decodeCommand w ≠ .instr .irqDr ∧ decodeCommand w ≠ .instr .irqAm) ∧
  (∀ v : BitVec 2, (Instr.irqDr ∈ decodeLatches v ↔ v &&& 0b01#2 = 0b01#2) ∧
    (Instr.irqAm ∈ decodeLatches v ↔ v &&& 0b10#2 = 0b10#2)) ∧
  encode .irqDr = .latches 0b01#2 ∧ encode .irqAm = .latches 0b10#2 ∧
  ∀ (s : State) (ts : List Turn), s.refused = false →
    (s.irqDrPend = true → step { s with schedule := .irqDr :: ts } = exec .irqDr { s with schedule := ts }) ∧
    (s.irqAmPend = true → step { s with schedule := .irqAm :: ts } = exec .irqAm { s with schedule := ts })

/-! ## The step -/

/-- R36: the command port. With the host's turn next and a word waiting: enabled, the word is decoded and its accept step
taken (or the word refused) in this one step; otherwise the word goes on waiting and nothing else changes. -/
def Obligations.StepAcceptsOrHoldsTheHostsWord : Prop :=
  ∀ (s : State) (w : Word) (ws : List Word) (ts : List Turn), s.refused = false →
    (s.initDone = true → s.seq = .idle → ∀ i, decodeCommand w = .instr i →
      step { s with host := w :: ws, schedule := .host :: ts } = exec i { s with host := ws, schedule := ts }) ∧
    (s.initDone = true → s.seq = .idle → ∀ r, decodeCommand w = .refuse r →
      step { s with host := w :: ws, schedule := .host :: ts } =
        .next { s with host := ws, schedule := ts, refused := true, refuseReason := r }) ∧
    (s.initDone = false ∨ s.seq ≠ .idle →
      step { s with host := w :: ws, schedule := .host :: ts } = .next { s with host := w :: ws, schedule := ts })

/-- R80: the decoder's case table on OP and ARG, and what a refused word does. -/
def Obligations.DecodeTableAndRefusedWords : Prop :=
  (∀ op arg : BitVec 4,
    (op = 0x1#4 → decodeCommand (op ++ arg) = if arg = 0 then .instr .pwrdn else .refuse .reservedField) ∧
    (op = 0x2#4 → decodeCommand (op ++ arg) = if arg = 0 then .instr .stby else .refuse .reservedField) ∧
    (op = 0x3#4 → decodeCommand (op ++ arg) = if arg = 0 then .instr .rx else .refuse .reservedField) ∧
    (op = 0x4#4 → arg[3] = true → decodeCommand (op ++ arg) = .refuse .reservedField) ∧
    (op = 0x4#4 → arg[3] = false → arg.extractLsb' 0 2 = 0b11#2 →
      decodeCommand (op ++ arg) = .refuse .reservedNextMode) ∧
    (op = 0x4#4 → arg[3] = false → ∀ nm : NextMode, arg.extractLsb' 0 2 = nm.code →
      decodeCommand (op ++ arg) = .instr (.tx nm arg[2])) ∧
    (op = 0x5#4 → decodeCommand (op ++ arg) = if arg = 0 then .instr .mode else .refuse .reservedField) ∧
    (op = 0x6#4 → decodeCommand (op ++ arg) = .instr (.setcb arg)) ∧
    (op = 0x7#4 → decodeCommand (op ++ arg) = if arg = 0 then .instr .poll else .refuse .reservedField) ∧
    (op = 0x0#4 ∨ 8 ≤ op.toNat → decodeCommand (op ++ arg) = .refuse .illegalOpcode)) ∧
  (∀ (s : State) (w : Word) (ws : List Word) (ts : List Turn) (r : RefuseReason),
    portOpen s = true → decodeCommand w = .refuse r →
      step { s with host := w :: ws, schedule := .host :: ts } =
        .next { s with host := ws, schedule := ts, refused := true, refuseReason := r })

/-- R176: a handler step is enabled by its latch alone, clears it, and runs its body; without it the turn is a hold. A set
latch waits through every other turn (short of a new reset): only its own handler step clears it. -/
def Obligations.HandlerStepsServeTheirLatches : Prop :=
  (∀ (s : State) (ts : List Turn), s.refused = false →
    (s.irqDrPend = true → ∃ t, step { s with schedule := .irqDr :: ts } = .next t ∧
      exec .irqDr { s with schedule := ts } = .next t ∧ t.irqDrPend = false ∧ t.irqAmPend = s.irqAmPend) ∧
    (s.irqDrPend = false → step { s with schedule := .irqDr :: ts } = .next { s with schedule := ts }) ∧
    (s.irqAmPend = true → ∃ t, step { s with schedule := .irqAm :: ts } = .next t ∧
      exec .irqAm { s with schedule := ts } = .next t ∧ t.irqAmPend = false ∧ t.irqDrPend = s.irqDrPend) ∧
    (s.irqAmPend = false → step { s with schedule := .irqAm :: ts } = .next { s with schedule := ts })) ∧
  (∀ (s t : State) (x : Turn), isReset x = false → takeTurn x s = .next t →
    (s.irqDrPend = true → x ≠ .irqDr → t.irqDrPend = true) ∧
    (s.irqAmPend = true → x ≠ .irqAm → t.irqAmPend = true))

/-- R170: a refusal writes the mark and, the first time, the reason, and nothing else; after it no step of any agent is
enabled. Of the step: one that ends refused changed nothing else of the block, and one that does not left the reason
alone. -/
def Obligations.RefusalMarksAndStopsTheRun : Prop :=
  (∀ (r : RefuseReason) (s : State),
    (s.refused = false → raiseRefuse r s = { s with refused := true, refuseReason := r }) ∧
    (s.refused = true → raiseRefuse r s = s)) ∧
  (∀ s : State, s.refused = true → step s = .refused (.runRefused s.refuseReason)) ∧
  (∀ s t : State, isReset (nextTurn s).1 = false → step s = .next t → t.refused = true →
    t.refuseReason ≠ .none ∧
    t = { s with
      refused := true
      refuseReason := t.refuseReason
      host := t.host
      schedule := t.schedule
      freeCount := t.freeCount }) ∧
  (∀ s t : State, isReset (nextTurn s).1 = false → step s = .next t → t.refused = false →
    t.refuseReason = s.refuseReason)

/-- Every run of turns is a run of the step: taking the turns of a schedule by `step` is `runTurns` of them. -/
def Obligations.ScheduleStepsAreTurns : Prop :=
  ∀ (ts : List Turn) (s : State),
    Host.Core.run Sys2Proof.core ts.length { s with schedule := ts } = runTurns ts { s with schedule := [] }

/-- R37 with R175: the four environment actions, enabled in every state that is not refused. -/
def Obligations.EnvironmentActions : Prop :=
  ∀ (s : State) (ts : List Turn), s.refused = false →
    (∀ dr am : Bool,
      step { s with schedule := .envStatus dr am :: ts } = .next { s with
        schedule := ts
        drLvl := if s.config.hasDr then dr else false
        amLvl := if s.config.hasAm then am else false
        irqDrPend := if s.config.disc = .interruptDriven ∧ s.initDone = true ∧ s.config.hasDr = true ∧
            s.drLvl = false ∧ dr = true then true else s.irqDrPend
        irqAmPend := if s.config.disc = .interruptDriven ∧ s.initDone = true ∧ s.config.hasAm = true ∧
            s.amLvl ≠ am then true else s.irqAmPend }) ∧
    (∀ c : Bool, step { s with schedule := .envCd c :: ts } = .next { s with schedule := ts, cdLvl := c }) ∧
    (step { s with schedule := .envTick :: ts } = .next { s with
        schedule := ts
        now := s.now + 1
        dlyElapsed := if s.dlyElapsed = 65535#16 then 65535#16 else s.dlyElapsed + 1 }) ∧
    (∀ (l : Line) (v : Bool), s.config.hasLine l = false →
      step { s with schedule := .envLine l v :: ts } = .next { s with schedule := ts }) ∧
    (∀ v : Bool, s.config.hasPwr = true →
      step { s with schedule := .envLine .pwr v :: ts } = .next { s with schedule := ts, linePwr := v }) ∧
    (∀ v : Bool, s.config.hasStby = true →
      step { s with schedule := .envLine .stby v :: ts } = .next { s with schedule := ts, lineStby := v }) ∧
    (∀ v : Bool, s.config.hasTxen = true →
      step { s with schedule := .envLine .txen v :: ts } = .next { s with schedule := ts, lineTxen := v })

/-- R51 to R54: the access primitives. A write to a present line sets its register and appends one record, a repeated
level too; a write to an unused line does nothing; unused lines and an absent carrier-detect read 0; the status word is
data-ready in bit 1 and address-match in bit 0. -/
def Obligations.LineAndStatusAccess : Prop :=
  ∀ (s : State) (v : Bool),
    (∀ l : Line, s.config.hasLine l = false → lineWrite l v s = s ∧ lineRead l s = false) ∧
    (s.config.hasPwr = true → lineRead .pwr s = s.linePwr ∧
      lineWrite .pwr v s = { s with linePwr := v, lineTrace := s.lineTrace ++ [⟨s.now, .pwr, v⟩] }) ∧
    (s.config.hasStby = true → lineRead .stby s = s.lineStby ∧
      lineWrite .stby v s = { s with lineStby := v, lineTrace := s.lineTrace ++ [⟨s.now, .stby, v⟩] }) ∧
    (s.config.hasTxen = true → lineRead .txen s = s.lineTxen ∧
      lineWrite .txen v s = { s with lineTxen := v, lineTrace := s.lineTrace ++ [⟨s.now, .txen, v⟩] }) ∧
    (s.config.hasCd = true → cdRead s = s.cdLvl) ∧ (s.config.hasCd = false → cdRead s = false) ∧
    (statusRead s)[1] = s.drLvl ∧ (statusRead s)[0] = s.amLvl

/-! ## The mode sequencer -/

/-- R100: the mode function, case by case; power dominates standby dominates tx-enable. -/
def Obligations.ModeIsAFunctionOfTheLines : Prop :=
  ∀ s : State,
    (s.config.hasPwr = true → s.linePwr = false → mode s = .powerDown) ∧
    (s.config.hasPwr = false ∨ s.linePwr = true →
      (lineRead .stby s = true → mode s = .standby) ∧
      (lineRead .stby s = false →
        (s.config.hasTxen = true → s.lineTxen = true → mode s = .transmit) ∧
        (s.config.hasTxen = true → s.lineTxen = false → mode s = .receive) ∧
        (s.config.hasTxen = false → mode s = .activeUnknown)))

/-- R103: PWRDN, whether or not the power line is present; without one the mode does not change. -/
def Obligations.PwrdnDeassertsPower : Prop :=
  ∀ s : State,
    (s.config.hasPwr = true →
      exec .pwrdn s = .next { s with
        linePwr := false
        lineTrace := s.lineTrace ++ [⟨s.now, .pwr, false⟩]
        respLog := s.respLog ++ [⟨s.now, .pwrdn, 0x00#8⟩]
        seq := .idle }) ∧
    (s.config.hasPwr = false →
      exec .pwrdn s = .next { s with respLog := s.respLog ++ [⟨s.now, .pwrdn, 0x00#8⟩], seq := .idle } ∧
      ∃ t, exec .pwrdn s = .next t ∧ mode t = mode s)

/-- R104: STBY asserts standby, then power; TXEN is not written; the mode afterwards is STANDBY. -/
def Obligations.StbyAssertsStandbyThenPower : Prop :=
  ∀ s : State,
    exec .stby s = .next { s with
      lineStby := driven s .stby true
      linePwr := driven s .pwr true
      lineTrace := s.lineTrace ++ writesTo s [(.stby, true), (.pwr, true)]
      respLog := s.respLog ++ [⟨s.now, .stby, 0x00#8⟩]
      seq := .idle } ∧
    (s.config.hasStby = true → ∃ t, exec .stby s = .next t ∧ mode t = .standby)

/-- R105: RX deasserts tx-enable and standby, then asserts power; the mode afterwards. -/
def Obligations.RxDeassertsTxenAndStandbyThenAssertsPower : Prop :=
  ∀ s : State,
    exec .rx s = .next { s with
      lineTxen := driven s .txen false
      lineStby := driven s .stby false
      linePwr := driven s .pwr true
      lineTrace := s.lineTrace ++ writesTo s [(.txen, false), (.stby, false), (.pwr, true)]
      respLog := s.respLog ++ [⟨s.now, .rx, 0x00#8⟩]
      seq := .idle } ∧
    (s.config.hasStby = true → ∃ t, exec .rx s = .next t ∧
      mode t = if s.config.hasTxen then .receive else .activeUnknown)

/-- R106: MODE answers the code of the mode of the lines at its step and writes no line; a MODE presented while the
sequencer is busy is held. -/
def Obligations.ModeRespondsItsCode : Prop :=
  ∀ s : State,
    (exec .mode s = .next { s with
      respLog := s.respLog ++ [⟨s.now, .mode,
        match mode s with
        | .powerDown => 0x00#8
        | .standby => 0x01#8
        | .receive => 0x02#8
        | .transmit => 0x03#8
        | .activeUnknown => 0x04#8⟩]
      seq := .idle }) ∧
    (∀ (ws : List Word) (ts : List Turn), s.refused = false → s.seq ≠ .idle →
      step { s with host := 0x50#8 :: ws, schedule := .host :: ts } =
        .next { s with host := 0x50#8 :: ws, schedule := ts })

/-- R107: the mode after PWRDN, STBY and RX, in every well-formed configuration, at any reading with no ENV_LINE step, no
further command and no reset in between. -/
def Obligations.ModeAfterModeCommands : Prop :=
  ∀ s : State, s.config.wf = true →
    let quiet (ts : List Turn) : Prop := ∀ x ∈ ts, x ≠ .host ∧ isEnvLine x = false ∧ isReset x = false
    (∃ t, exec .pwrdn s = .next t ∧ ∀ (ts : List Turn) (u : State), quiet ts → runTurns ts t = .next u →
      mode u = if s.config.hasPwr then .powerDown else mode s) ∧
    (∃ t, exec .stby s = .next t ∧ ∀ (ts : List Turn) (u : State), quiet ts → runTurns ts t = .next u →
      mode u = .standby) ∧
    (∃ t, exec .rx s = .next t ∧ ∀ (ts : List Turn) (u : State), quiet ts → runTurns ts t = .next u →
      mode u = if s.config.hasTxen then .receive else .activeUnknown)

/-- R110 with R112: TX's accept step. From POWER_DOWN no collision check is made: power up, then wait the settle unless the
next mode is TRANSMIT. From a powered mode with a free channel, an absent carrier-detect line or no check asked for: the
transmission starts, by STBY 0 when from STANDBY, and TX RECEIVE waits T_TXPULSE then and T_SETTLE otherwise. From a
powered mode with the check asked for and the channel busy: response 0 and no line written. -/
def Obligations.TxAcceptStep : Prop :=
  (∀ (s : State) (ca : Bool), mode s = .powerDown →
    exec (.tx .transmit ca) s = .next { s with
      linePwr := true
      lineStby := driven s .stby false
      lineTxen := driven s .txen true
      lineTrace := s.lineTrace ++ writesTo s [(.stby, true), (.pwr, true), (.txen, true), (.stby, false)]
      respLog := s.respLog ++ [⟨s.now, .tx, 0x01#8⟩]
      seq := .idle } ∧
    ∀ nm : NextMode, nm ≠ .transmit →
      exec (.tx nm ca) s = .next { s with
        linePwr := true
        lineStby := driven s .stby true
        lineTrace := s.lineTrace ++ writesTo s [(.stby, true), (.pwr, true)]
        txNm := nm
        dlyTarget := BitVec.ofNat 16 s.config.tPwrup
        dlyElapsed := 0
        seq := .txPwrupWait }) ∧
  (∀ (s : State) (ca : Bool), mode s ≠ .powerDown → ca = false ∨ s.config.hasCd = false ∨ s.cdLvl = false →
    let writes := if mode s = .standby then [(Line.txen, true), (Line.stby, false)] else [(Line.txen, true)]
    let stby := if mode s = .standby then driven s .stby false else s.lineStby
    exec (.tx .transmit ca) s = .next { s with
      lineTxen := driven s .txen true
      lineStby := stby
      lineTrace := s.lineTrace ++ writesTo s writes
      respLog := s.respLog ++ [⟨s.now, .tx, 0x01#8⟩]
      seq := .idle } ∧
    exec (.tx .standby ca) s = .next { s with
      lineTxen := driven s .txen true
      lineStby := stby
      lineTrace := s.lineTrace ++ writesTo s writes
      dlyTarget := BitVec.ofNat 16 s.config.tSettle
      dlyElapsed := 0
      seq := .txSbWait } ∧
    exec (.tx .receive ca) s = .next { s with
      lineTxen := driven s .txen true
      lineStby := stby
      lineTrace := s.lineTrace ++ writesTo s writes
      dlyTarget := BitVec.ofNat 16 (if mode s = .standby then s.config.tTxpulse else s.config.tSettle)
      dlyElapsed := 0
      seq := .txRxWait }) ∧
  (∀ (s : State) (nm : NextMode), mode s ≠ .powerDown → s.config.hasCd = true → s.cdLvl = true →
    exec (.tx nm true) s = .next { s with respLog := s.respLog ++ [⟨s.now, .tx, 0x00#8⟩], seq := .idle })

/-- R116: a TX that finds the channel busy writes no line, keeps the mode, and responds 0x00 at its accept step. -/
def Obligations.TxAbortsOnABusyChannel : Prop :=
  ∀ (s : State) (nm : NextMode), mode s ≠ .powerDown → s.config.hasCd = true → s.cdLvl = true →
    exec (.tx nm true) s = .next { s with respLog := s.respLog ++ [⟨s.now, .tx, 0x00#8⟩], seq := .idle } ∧
    ∀ t, exec (.tx nm true) s = .next t → mode t = mode s

/-- R102 with R111, R113, R114 and R201: WAIT_DONE is held before its target, and completes each wait by its rule. -/
def Obligations.WaitDoneCompletesEachWait : Prop :=
  ∀ (s : State) (ts : List Turn), s.refused = false →
    (s.seq = .idle ∨ s.dlyElapsed.toNat < s.dlyTarget.toNat →
      step { s with schedule := .waitDone :: ts } = .next { s with schedule := ts }) ∧
    (s.dlyTarget.toNat ≤ s.dlyElapsed.toNat →
      (s.seq = .initWait →
        step { s with schedule := .waitDone :: ts } =
          .next { s with schedule := ts, initDone := true, seq := .idle }) ∧
      (s.seq = .txRxWait →
        step { s with schedule := .waitDone :: ts } = .next { s with
          schedule := ts
          lineTxen := driven s .txen false
          lineTrace := s.lineTrace ++ writesTo s [(.txen, false)]
          respLog := s.respLog ++ [⟨s.now, .tx, 0x01#8⟩]
          seq := .idle }) ∧
      (s.seq = .txSbWait →
        step { s with schedule := .waitDone :: ts } = .next { s with
          schedule := ts
          lineStby := driven s .stby true
          lineTrace := s.lineTrace ++ writesTo s [(.stby, true)]
          respLog := s.respLog ++ [⟨s.now, .tx, 0x01#8⟩]
          seq := .idle }) ∧
      (s.seq = .txPwrupWait → s.txNm = .standby →
        step { s with schedule := .waitDone :: ts } = .next { s with
          schedule := ts
          lineTxen := driven s .txen true
          lineStby := driven s .stby false
          lineTrace := s.lineTrace ++ writesTo s [(.txen, true), (.stby, false)]
          dlyTarget := BitVec.ofNat 16 s.config.tSettle
          dlyElapsed := 0
          seq := .txSbWait }) ∧
      (s.seq = .txPwrupWait → s.txNm = .receive →
        step { s with schedule := .waitDone :: ts } = .next { s with
          schedule := ts
          lineTxen := driven s .txen true
          lineStby := driven s .stby false
          lineTrace := s.lineTrace ++ writesTo s [(.txen, true), (.stby, false)]
          dlyTarget := BitVec.ofNat 16 s.config.tTxpulse
          dlyElapsed := 0
          seq := .txRxWait }))

/-- The lines during a TX's waits, an invariant of every turn but ENV_LINE (R115's premise "no `ENV_LINE` step"). -/
def Obligations.TurnsKeepTxLines : Prop :=
  ∀ (s t : State) (x : Turn), isReset x = false → isEnvLine x = false → TxLines s → takeTurn x s = .next t → TxLines t

/-- R115's final modes: a TX that succeeds at its accept step, or at the completion of its last wait, ends in the mode
of its next mode, as long as no ENV_LINE step came between. -/
def Obligations.SuccessfulTxEndsInItsTargetMode : Prop :=
  (∀ (s t : State) (ca : Bool), TxLines s → exec (.tx .transmit ca) s = .next t →
    t.respLog = s.respLog ++ [⟨s.now, .tx, 0x01#8⟩] → mode t = txTarget s.config .transmit) ∧
  (∀ (s : State) (nm : NextMode) (ca : Bool), TxLines s → nm ≠ .transmit →
    ca = false ∨ cdRead s = false ∨ mode s = .powerDown → ∃ t, exec (.tx nm ca) s = .next t ∧ TxLines t ∧
      (t.seq = .txPwrupWait ∧ t.txNm = nm ∨ t.seq = .txRxWait ∧ nm = .receive ∨ t.seq = .txSbWait ∧ nm = .standby)) ∧
  (∀ s : State, TxLines s → waitDoneEnabled s = true →
    (s.seq = .txPwrupWait → s.txNm = .standby → ∃ t, takeTurn .waitDone s = .next t ∧ TxLines t ∧ t.seq = .txSbWait) ∧
    (s.seq = .txPwrupWait → s.txNm = .receive → ∃ t, takeTurn .waitDone s = .next t ∧ TxLines t ∧ t.seq = .txRxWait) ∧
    (s.seq = .txSbWait → ∃ t, takeTurn .waitDone s = .next t ∧ mode t = txTarget s.config .standby ∧ t.seq = .idle) ∧
    (s.seq = .txRxWait → ∃ t, takeTurn .waitDone s = .next t ∧ mode t = txTarget s.config .receive ∧ t.seq = .idle))

/-- R32's "exactly once": the responses given, and one for a TX still waiting, count the commands accepted. -/
def Obligations.EveryAcceptedCommandRespondsOnce : Prop :=
  let given (s : State) : Nat :=
    s.respLog.length + (if s.seq = .txPwrupWait ∨ s.seq = .txRxWait ∨ s.seq = .txSbWait then 1 else 0)
  (∀ (s t : State) (i : Instr), i.isCommand = true → s.seq = .idle → s.refused = false → exec i s = .next t →
    given t = given s + (if t.refused then 0 else 1)) ∧
  (∀ (s t : State) (x : Turn), x ≠ .host → isReset x = false → takeTurn x s = .next t → given t = given s)

/-- R13's lower bound: while fewer ticks than its length have passed, a wait goes on, whatever turns are taken; no line
is driven and nothing is responded. -/
def Obligations.WaitsNeverEndEarly : Prop :=
  ∀ (ts : List Turn) (s : State), s.refused = false → s.seq ≠ .idle → (∀ x ∈ ts, isReset x = false) →
    s.dlyElapsed.toNat + tickCount ts < s.dlyTarget.toNat →
    ∃ t, runTurns ts s = .next t ∧ t.seq = s.seq ∧ t.dlyTarget = s.dlyTarget ∧ t.txNm = s.txNm ∧
      t.respLog = s.respLog ∧ t.lineTrace = s.lineTrace ∧ t.initDone = s.initDone ∧ t.host = s.host

/-- R220's formulas: under every schedule with no reset, a TX that is not aborted has responded only after at least the
minimum number of ticks of its row. -/
def Obligations.TxTakesAtLeastItsMinimumTicks : Prop :=
  ∀ (s t₀ t : State) (nm : NextMode) (ca : Bool) (ts : List Turn), s.config.wf = true → portOpen s = true →
    mode s = .powerDown ∨ ca = false ∨ cdRead s = false → exec (.tx nm ca) s = .next t₀ →
    (∀ x ∈ ts, isReset x = false) → runTurns ts t₀ = .next t → s.respLog.length < t.respLog.length →
    minTxTicks s.config (mode s) nm ≤ tickCount ts

/-- The bounds of R220 are met: with the waits' ticks and a WAIT_DONE after each, every TX responds, once. -/
def Obligations.TxRespondsOnceAfterItsWaits : Prop :=
  ∀ (s : State) (nm : NextMode) (ca : Bool) (n m : Nat), portOpen s = true →
    s.config.tPwrup ≤ n → max s.config.tTxpulse s.config.tSettle ≤ m → s.config.wf = true →
    ∃ t₀ t v, exec (.tx nm ca) s = .next t₀ ∧
      runTurns (List.replicate n .envTick ++ [.waitDone] ++ List.replicate m .envTick ++ [.waitDone]) t₀ = .next t ∧
      t.seq = .idle ∧ t.respLog.map RespRecord.op = s.respLog.map RespRecord.op ++ [.tx] ∧
      t.respLog.map RespRecord.value = s.respLog.map RespRecord.value ++ [v] ∧
      v = if mode s ≠ .powerDown ∧ ca = true ∧ cdRead s = true then 0x00#8 else 0x01#8

/-- R173 with R13: in a weakly fair run neither hold is permanent: the command port opens again and again. -/
def Obligations.FairRunsReopenTheCommandPort : Prop :=
  ∀ (turn : Nat → Turn) (st : Nat → State), IsRun turn st → WeaklyFair turn st → BlockInv (st 0) →
    ∀ n, ∃ m, n ≤ m ∧ portOpen (st m) = true

/-- R13 and R176: in a weakly fair run every pending interrupt is served. -/
def Obligations.FairRunsServeEveryPendingInterrupt : Prop :=
  ∀ (turn : Nat → Turn) (st : Nat → State), IsRun turn st → WeaklyFair turn st →
    ∀ n, ((st n).irqDrPend = true → ∃ m, n ≤ m ∧ turn m = .irqDr ∧ (st m).irqDrPend = true) ∧
      ((st n).irqAmPend = true → ∃ m, n ≤ m ∧ turn m = .irqAm ∧ (st m).irqAmPend = true)

/-! ## The event dispatcher -/

/-- R141: SETCB replaces the whole mask, in both disciplines, and responds 0. -/
def Obligations.SetcbReplacesTheMask : Prop :=
  ∀ (s : State) (mask : BitVec 4),
    exec (.setcb mask) s = .next { s with
      cbMask := mask
      respLog := s.respLog ++ [⟨s.now, .setcb, 0x00#8⟩]
      seq := .idle }

/-- R145 with R148's rows: POLL's whole effect in the polled discipline, and its refusal (the mark and nothing else) in the
interrupt-driven one. -/
def Obligations.PollClassifiesTheStatusWord : Prop :=
  (∀ s : State, s.config.disc = .polled →
    exec .poll s = .next { s with
      evtLog := s.evtLog ++
        ((pollRow (statusRead s) s.pollLast s.pollInam).1.toList.map (eventRecord s .foreground))
      pollInam := (pollRow (statusRead s) s.pollLast s.pollInam).2
      pollLast := statusRead s
      respLog := s.respLog ++ [⟨s.now, .poll, 0x00#8⟩]
      seq := .idle }) ∧
  (∀ s : State, s.config.disc = .interruptDriven → s.refused = false →
    exec .poll s = .next { s with refused := true, refuseReason := .discipline })

/-- R150: duplicate suppression. A POLL whose sample equals POLL_LAST raises no event and changes no dispatcher register;
so a second POLL on the same levels raises none. Every IRQ.DR raises exactly one event, every IRQ.AM at most one. -/
def Obligations.UnchangedStatusRaisesNoEvent : Prop :=
  (∀ s : State, s.config.disc = .polled → statusRead s = s.pollLast →
    exec .poll s = .next { s with respLog := s.respLog ++ [⟨s.now, .poll, 0x00#8⟩], seq := .idle }) ∧
  (∀ s t : State, s.config.disc = .polled → exec .poll s = .next t →
    ∃ u, exec .poll t = .next u ∧ u.evtLog = t.evtLog ∧ u.pollLast = t.pollLast ∧ u.pollInam = t.pollInam) ∧
  (∀ s : State, ∃ t, exec .irqDr s = .next t ∧ t.evtLog.length = s.evtLog.length + 1) ∧
  (∀ s : State, ∃ t, exec .irqAm s = .next t ∧ t.evtLog.length ≤ s.evtLog.length + 1)

/-- R146 with R149's rows: the data-ready handler. -/
def Obligations.DataReadyHandlerClassifiesByAddressMatch : Prop :=
  ∀ s : State,
    exec .irqDr s = .next { s with
      irqDrPend := false
      pending := (drRow s.amLvl s.pending).2
      evtLog := s.evtLog ++ [eventRecord s .handler (drRow s.amLvl s.pending).1] }

/-- R147 with R149's rows: the address-match handler. PENDING is always cleared. -/
def Obligations.AddressMatchHandlerClassifiesByPending : Prop :=
  ∀ s : State,
    exec .irqAm s = .next { s with
      irqAmPend := false
      pending := false
      evtLog := s.evtLog ++ ((amRow s.amLvl s.pending).toList.map (eventRecord s .handler)) }

/-- R151: every step raises at most one event, stamped with NOW and with the delivered flag of the mask in force; and
only POLL and the handler steps raise any: on a host's turn that raises one the discipline is polled and the response
appended is POLL's. -/
def Obligations.AtMostOneEventPerStep : Prop :=
  ∀ s t : State, isReset (nextTurn s).1 = false → step s = .next t →
    (t.evtLog = s.evtLog ∨ ∃ ctx e, t.evtLog = s.evtLog ++ [eventRecord s ctx e]) ∧
    (t.evtLog ≠ s.evtLog → (nextTurn s).1 = .host ∨ (nextTurn s).1 = .irqDr ∨ (nextTurn s).1 = .irqAm) ∧
    (t.evtLog ≠ s.evtLog → (nextTurn s).1 = .host →
      s.config.disc = .polled ∧ t.respLog = s.respLog ++ [⟨s.now, .poll, 0x00#8⟩])

/-- R153: RX_COMPLETE is raised only with address-match asserted: interrupt-driven by an IRQ.DR only, polled by a POLL
only, that samples 0b11 after a different sample. So after a reset with AM_LVL = 0 every RX_COMPLETE is preceded by an
ENV_STATUS that raised address-match with none that lowers it in between; after one with AM_LVL = 1 an RX_COMPLETE can
come with no address-match edge. The command is POLL: its response is the one appended. The block's invariant rules out
latches in the polled discipline. -/
def Obligations.RxCompleteNeedsAddressMatch : Prop :=
  (∀ (s t : State) (x : Turn) (r : EventRecord), BlockInv s → isReset x = false → takeTurn x s = .next t →
    t.evtLog = s.evtLog ++ [r] → r.event = .rxComplete →
    s.amLvl = true ∧ (s.config.disc = .interruptDriven → x = .irqDr) ∧
      (s.config.disc = .polled → x = .host ∧ t.respLog = s.respLog ++ [⟨s.now, .poll, 0x00#8⟩] ∧
        statusRead s = 0b11#2 ∧ s.pollLast ≠ 0b11#2)) ∧
  (∀ (ts : List Turn) (x : Turn) (s t u : State) (r : EventRecord), s.amLvl = false →
    (∀ y ∈ ts ++ [x], isReset y = false) → runTurns ts s = .next t → takeTurn x t = .next u →
    u.evtLog = t.evtLog ++ [r] → r.event = .rxComplete →
    ∃ before dr after, ts = before ++ [.envStatus dr true] ++ after ∧ ∀ d, Turn.envStatus d false ∉ after) ∧
  (∀ (c : Config) (cd : Bool), c.wf = true → c.disc = .polled → c.hasDr = true → c.hasAm = true → c.tInit = 0 →
    ∃ t, runTurns [.waitDone, .envStatus true true, .host]
        { State.resetWith c false true cd with host := [0x70#8] } = .next t ∧ events t = [.rxComplete])

/-- R154, polled: in every polled run from reset, between two RX_INVALID events stands an ADDR_MATCH. -/
def Obligations.PolledInvalidsAreSeparatedByAddressMatches : Prop :=
  ∀ (c : Config) (dr am cd : Bool) (ws : List Word) (ts : List Turn) (t : State), c.disc = .polled →
    (∀ x ∈ ts, isReset x = false) → runTurns ts { State.resetWith c dr am cd with host := ws } = .next t →
    ∀ a b c' : List Event, events t = a ++ [.rxInvalid] ++ b ++ [.rxInvalid] ++ c' → Event.addrMatch ∈ b

/-- R154, interrupt-driven: the counterexample. Address-match falls and its handler runs; it rises and falls again before
the next handler step: a second RX_INVALID with no ADDR_MATCH between. -/
def Obligations.MergedEdgesRaiseASecondInvalid : Prop :=
  ∀ s : State, s.refused = false → s.initDone = true → s.config.disc = .interruptDriven → s.config.hasAm = true →
    s.amLvl = false → s.drLvl = false → s.irqAmPend = false → s.pending = false →
    ∃ t, runTurns [.envStatus false true, .irqAm, .envStatus false false, .irqAm,
        .envStatus false true, .envStatus false false, .irqAm] s = .next t ∧
      events t = events s ++ [.addrMatch, .rxInvalid, .rxInvalid]

/-- R213: an ENV_STATUS that takes 00 to 11 sets both latches; the handlers' order decides the events, and whether a
later fall of address-match raises RX_INVALID. -/
def Obligations.SimultaneousEdgesDependOnTheOrder : Prop :=
  ∀ s : State, s.refused = false → s.initDone = true → s.config.disc = .interruptDriven → s.config.hasDr = true →
    s.config.hasAm = true → s.amLvl = false → s.drLvl = false →
    (∃ t, runTurns [.envStatus true true] s = .next t ∧ t.irqDrPend = true ∧ t.irqAmPend = true) ∧
    (∃ t u, runTurns [.envStatus true true, .irqDr, .irqAm] s = .next t ∧ t.pending = false ∧
      events t = events s ++ [.rxComplete, .addrMatch] ∧
      runTurns [.envStatus false false, .irqAm] t = .next u ∧ events u = events t ++ [.rxInvalid]) ∧
    (∃ t u, runTurns [.envStatus true true, .irqAm, .irqDr] s = .next t ∧ t.pending = true ∧
      events t = events s ++ [.addrMatch, .rxComplete] ∧
      runTurns [.envStatus false false, .irqAm] t = .next u ∧ events u = events t)

/-- R152: on every path of nominal transitions the two disciplines raise the same events, whichever handler goes first.
The polled block's data-ready and address-match lines are taken to be present too: R152 says so only of the
interrupt-driven one, and the next statement shows that the equivalence needs it (log entry 19). -/
def Obligations.DisciplinesAgreeOnNominalPaths : Prop :=
  ∀ (p q : State) (path : List (Bool × Bool)) (drFirst : Nat → Bool), nominalPath (false, false) path = true →
    portOpen p = true → p.config.disc = .polled → p.config.hasDr = true → p.config.hasAm = true →
    p.drLvl = false → p.amLvl = false → p.pollLast = 0 → p.pollInam = false →
    q.refused = false → q.initDone = true → q.config.disc = .interruptDriven → q.config.hasDr = true →
    q.config.hasAm = true → q.drLvl = false → q.amLvl = false → q.pending = false →
    q.irqDrPend = false → q.irqAmPend = false →
    ∃ p' q' es, runTurns (polledTurns path) { p with host := List.replicate path.length 0x70#8 } = .next p' ∧
      runTurns (handlerTurns drFirst 0 path) q = .next q' ∧
      events p' = events p ++ es ∧ events q' = events q ++ es

/-- The premise that R152 leaves out: with the polled block's address-match line absent, the first nominal transition
already gives different events (log entry 19). -/
def Obligations.EquivalenceNeedsThePolledAddressMatchLine : Prop :=
  ∀ p q : State, portOpen p = true → p.config.disc = .polled → p.config.hasDr = true → p.config.hasAm = false →
    p.drLvl = false → p.amLvl = false → p.pollLast = 0 → p.pollInam = false →
    q.refused = false → q.initDone = true → q.config.disc = .interruptDriven → q.config.hasDr = true →
    q.config.hasAm = true → q.drLvl = false → q.amLvl = false → q.pending = false →
    q.irqDrPend = false → q.irqAmPend = false →
    ∃ p' q', runTurns (polledTurns [(false, true)]) { p with host := [0x70#8] } = .next p' ∧
      runTurns (handlerTurns (fun _ => true) 0 [(false, true)]) q = .next q' ∧
      events p' = events p ∧ events q' = events q ++ [.addrMatch]

/-- R174: a handler step writes PENDING, its own latch and EVT_LOG, and leaves every sequencer register, every line and
the wait counter as they were. -/
def Obligations.HandlersLeaveTheSequencerAlone : Prop :=
  ∀ s : State,
    (∃ t, exec .irqDr s = .next t ∧
      t = { s with irqDrPend := t.irqDrPend, pending := t.pending, evtLog := t.evtLog }) ∧
    (∃ t, exec .irqAm s = .next t ∧
      t = { s with irqAmPend := t.irqAmPend, pending := t.pending, evtLog := t.evtLog })

/-- R56: a handler step may fall before or after a mode command or a wait's completion: every register and log is the
same either way. -/
def Obligations.HandlersCommuteWithTheSequencer : Prop :=
  ∀ (s : State) (h : Turn), h = .irqDr ∨ h = .irqAm → s.refused = false →
    (∀ i : Instr, i = .pwrdn ∨ i = .stby ∨ i = .rx ∨ i = .mode ∨ (∃ nm ca, i = .tx nm ca) →
      ∃ a b t, exec i s = .next a ∧ takeTurn h a = .next t ∧ takeTurn h s = .next b ∧ exec i b = .next t) ∧
    (∃ t, runTurns [.waitDone, h] s = .next t ∧ runTurns [h, .waitDone] s = .next t)

/-- R34 and the logs' part of D10: time and the logs are never read. Two states that differ only in NOW and the logs
step to states that differ only in them, with the same refusals. -/
def Obligations.TimeAndLogsAreNeverRead : Prop :=
  let hide (s : State) : State := { s with now := 0, lineTrace := [], respLog := [], evtLog := [] }
  ∀ s₁ s₂ : State, hide s₁ = hide s₂ →
    (∀ t₁, step s₁ = .next t₁ → ∃ t₂, step s₂ = .next t₂ ∧ hide t₁ = hide t₂) ∧
    (∀ r, step s₁ = .refused r → step s₂ = .refused r)

/-! ## Reset -/

/-- R39: the state after the reset step of every well-formed configuration and every draw of the input levels. -/
def Obligations.ResetValues : Prop :=
  ∀ (c : Config) (dr am cd : Bool), c.wf = true →
    let s := resetStep c dr am cd
    s.config = c ∧ s.linePwr = c.hasPwr ∧ s.lineStby = true ∧ s.lineTxen = false ∧ s.seq = .initWait ∧
    s.txNm.code = 0b00#2 ∧ s.dlyTarget.toNat = c.tInit ∧ s.dlyElapsed = 0 ∧ s.initDone = false ∧ s.pending = false ∧
    s.pollLast = 0b00#2 ∧ s.pollInam = false ∧ s.cbMask = 0b0000#4 ∧ s.irqDrPend = false ∧ s.irqAmPend = false ∧
    (s.drLvl = if c.hasDr then dr else false) ∧ (s.amLvl = if c.hasAm then am else false) ∧ s.cdLvl = cd ∧
    s.refused = false ∧ s.refuseReason = .none ∧ s.now = 0 ∧ s.respLog = [] ∧ s.evtLog = [] ∧
    s.lineTrace = writesTo s [(.txen, false), (.pwr, false), (.stby, true), (.pwr, true)] ∧ mode s = .standby

/-- R200: the reset step's procedure gives exactly the state the table of R39 gives, refused configurations included. -/
def Obligations.ResetProcedureGivesTheResetTable : Prop :=
  ∀ (c : Config) (dr am cd : Bool), resetStep c dr am cd = State.resetWith c dr am cd

/-- R8: a configuration is well formed exactly when its three conditions hold; reset refuses every other with CONFIG, an
empty trace and no step enabled. -/
def Obligations.ResetRefusesIllFormedConfigurations : Prop :=
  ∀ c : Config,
    (c.wf = true ↔ c.hasStby = true ∧ (c.disc = .interruptDriven → c.hasDr = true) ∧
      c.tPwrup ≤ 65535 ∧ c.tTxpulse ≤ 65535 ∧ c.tSettle ≤ 65535 ∧ c.tInit ≤ 65535) ∧
    (c.wf = false → ∀ (dr am cd : Bool) (ws : List Word) (ts : List Turn),
      let s := resetStep c dr am cd
      s.refused = true ∧ s.refuseReason = .config ∧ s.lineTrace = [] ∧
      step { s with host := ws, schedule := ts } = .refused (.runRefused .config))

/-- R201 and R202: from reset, T_INIT ticks and a WAIT_DONE open the command port, with no response logged. After any
turns without another reset, whatever words the host presents: with fewer than T_INIT ticks among them the
initialization is not done, and as long as it is not done the port is closed, no latch is set and no response is
logged. -/
def Obligations.InitializationOpensThePort : Prop :=
  ∀ (c : Config) (dr am cd : Bool), c.wf = true →
    (∀ n, c.tInit ≤ n → ∃ t, runTurns (List.replicate n .envTick ++ [.waitDone]) (resetStep c dr am cd) = .next t ∧
      portOpen t = true ∧ t.respLog = [] ∧ t.now = n ∧ mode t = .standby) ∧
    (∀ (ws : List Word) (ts : List Turn), (∀ x ∈ ts, isReset x = false) →
      let run := runTurns ts { resetStep c dr am cd with host := ws }
      (tickCount ts < c.tInit → ∃ u, run = .next u ∧ u.initDone = false) ∧
      (∀ u, run = .next u → u.initDone = false →
        portOpen u = false ∧ u.irqDrPend = false ∧ u.irqAmPend = false ∧ u.respLog = []))

/-- R203: a new reset step discards all of the block's state, and is the only step that changes the configuration. What
the model's own lists still hold stays (log entry 8). -/
def Obligations.OnlyResetChangesTheConfiguration : Prop :=
  (∀ (s : State) (c : Config) (dr am cd : Bool) (ts : List Turn), s.refused = false →
    step { s with schedule := .reset c dr am cd :: ts } =
      .next { State.resetWith c dr am cd with host := s.host, schedule := ts, freeCount := s.freeCount }) ∧
  (∀ s t : State, isReset (nextTurn s).1 = false → step s = .next t → t.config = s.config)

/-! ## Invariants -/

/-- The block's invariant is kept by every step, from every state that meets it, whatever turn is taken. The clause that
POLL_INAM is 1 exactly when POLL_LAST is 01 rests on R145 as log entry 18 reads it (DEDUCED, against the remark at
95_test_vectors.md L2.9). After a reset turn to an ill-formed configuration the invariant rests on the model's choice of
zero registers there (log entry 7, DESIGN CHOICE). -/
def Obligations.StepKeepsInvariant : Prop :=
  ∀ s t : State, BlockInv s → step s = .next t → BlockInv t

/-- The block's invariant holds after reset, for every configuration, draw, host and schedule. For a well-formed
configuration it rests on R39; for an ill-formed one on the zero registers of `State.resetRefused`, which are the model's
choice (log entry 7, DESIGN CHOICE, unsafe for those registers' values). -/
def Obligations.ResetMeetsInvariant : Prop :=
  ∀ (c : Config) (dr am cd : Bool) (ws : List Word) (ts : List Turn),
    BlockInv { State.resetWith c dr am cd with host := ws, schedule := ts }

/-- R31, R32, R33: the logs only grow. -/
def Obligations.LogsOnlyGrow : Prop :=
  ∀ s t : State, isReset (nextTurn s).1 = false → step s = .next t →
    s.lineTrace <+: t.lineTrace ∧ s.respLog <+: t.respLog ∧ s.evtLog <+: t.evtLog

/-- R34: every step keeps the logs in the order of time, none of their records later than NOW. A reset turn to an ill-formed
configuration leaves the response and event logs empty by the model's choice (log entry 7). -/
def Obligations.StepKeepsLogTimes : Prop :=
  ∀ s t : State, LogTimes s → step s = .next t → LogTimes t

/-- R31 with R22: a control line's register changes only by a traced write, or from outside by ENV_LINE: every other turn
that changes it appends a record of the new level at NOW. -/
def Obligations.LineChangesAreTraced : Prop :=
  ∀ (s t : State) (x : Turn) (l : Line), isReset x = false → takeTurn x s = .next t → lineReg l t ≠ lineReg l s →
    (∃ v, x = .envLine l v ∧ s.config.hasLine l = true) ∨
    (∃ r new, t.lineTrace = s.lineTrace ++ new ∧ r ∈ new ∧ r = ⟨s.now, l, lineReg l t⟩)

/-- R22: an unused control line's register is not written by any turn. -/
def Obligations.UnusedLinesAreNeverWritten : Prop :=
  ∀ (s t : State) (x : Turn) (l : Line), isReset x = false → takeTurn x s = .next t → s.config.hasLine l = false →
    lineReg l t = lineReg l s ∧ ∃ new, t.lineTrace = s.lineTrace ++ new ∧ ∀ r ∈ new, r.line ≠ l

/-- R183: instances share no state: one instance's step leaves every other as it was, and is its own step. -/
def Obligations.InstancesAreIndependent : Prop :=
  ∀ (sys : System) (k : Nat) (s t : State), sys[k]? = some s → step s = .next t →
    stepInstance k sys = .next (sys.set k t) ∧ (sys.set k t)[k]? = some t ∧
    ∀ j, j ≠ k → (sys.set k t)[j]? = sys[j]?

/-- R83 and R84: each command line of a program is one word that decodes to its command, and one turn. -/
def Obligations.ProgramLinesAreOneWordAndOneTurn : Prop :=
  (∀ i : Instr, i.isCommand = true →
    ∃ w, lineWords (.command i) = [w] ∧ decodeCommand w = .instr i ∧ lineTurns (.command i) = [.host]) ∧
  parseLine "TX STANDBY, 0" = some (.command (.tx .standby false)) ∧
  parseLine "SETCB RX_COMPLETE|ADDR_MATCH" = some (.command (.setcb 0b1001#4)) ∧
  parseLine "ENV_STATUS 0,1" = some (.envStatus false true) ∧
  parseLine "ENV_LINE PWR, 0" = some (.envLine .pwr false)
end

