-- ==== Sys2Proof/Laws/State.lean ====
section
/-! SUPPORT. What each shared operation does to each field of State: one lemma per field, tagged for simp, so that no later
proof unfolds an operation. -/

namespace Sys2Proof.Machine

/-! ## setLine -/

@[simp] theorem setLine_config (l : Line) (v : Bool) (s : State) : (setLine l v s).config = s.config := by cases l <;> rfl
@[simp] theorem setLine_seq (l : Line) (v : Bool) (s : State) : (setLine l v s).seq = s.seq := by cases l <;> rfl
@[simp] theorem setLine_txNm (l : Line) (v : Bool) (s : State) : (setLine l v s).txNm = s.txNm := by cases l <;> rfl
@[simp] theorem setLine_dlyTarget (l : Line) (v : Bool) (s : State) : (setLine l v s).dlyTarget = s.dlyTarget := by cases l <;> rfl
@[simp] theorem setLine_dlyElapsed (l : Line) (v : Bool) (s : State) : (setLine l v s).dlyElapsed = s.dlyElapsed := by cases l <;> rfl
@[simp] theorem setLine_initDone (l : Line) (v : Bool) (s : State) : (setLine l v s).initDone = s.initDone := by cases l <;> rfl
@[simp] theorem setLine_pending (l : Line) (v : Bool) (s : State) : (setLine l v s).pending = s.pending := by cases l <;> rfl
@[simp] theorem setLine_cbMask (l : Line) (v : Bool) (s : State) : (setLine l v s).cbMask = s.cbMask := by cases l <;> rfl
@[simp] theorem setLine_pollLast (l : Line) (v : Bool) (s : State) : (setLine l v s).pollLast = s.pollLast := by cases l <;> rfl
@[simp] theorem setLine_pollInam (l : Line) (v : Bool) (s : State) : (setLine l v s).pollInam = s.pollInam := by cases l <;> rfl
@[simp] theorem setLine_drLvl (l : Line) (v : Bool) (s : State) : (setLine l v s).drLvl = s.drLvl := by cases l <;> rfl
@[simp] theorem setLine_amLvl (l : Line) (v : Bool) (s : State) : (setLine l v s).amLvl = s.amLvl := by cases l <;> rfl
@[simp] theorem setLine_cdLvl (l : Line) (v : Bool) (s : State) : (setLine l v s).cdLvl = s.cdLvl := by cases l <;> rfl
@[simp] theorem setLine_irqDrPend (l : Line) (v : Bool) (s : State) : (setLine l v s).irqDrPend = s.irqDrPend := by cases l <;> rfl
@[simp] theorem setLine_irqAmPend (l : Line) (v : Bool) (s : State) : (setLine l v s).irqAmPend = s.irqAmPend := by cases l <;> rfl
@[simp] theorem setLine_refused (l : Line) (v : Bool) (s : State) : (setLine l v s).refused = s.refused := by cases l <;> rfl
@[simp] theorem setLine_refuseReason (l : Line) (v : Bool) (s : State) : (setLine l v s).refuseReason = s.refuseReason := by cases l <;> rfl
@[simp] theorem setLine_now (l : Line) (v : Bool) (s : State) : (setLine l v s).now = s.now := by cases l <;> rfl
@[simp] theorem setLine_lineTrace (l : Line) (v : Bool) (s : State) : (setLine l v s).lineTrace = s.lineTrace := by cases l <;> rfl
@[simp] theorem setLine_respLog (l : Line) (v : Bool) (s : State) : (setLine l v s).respLog = s.respLog := by cases l <;> rfl
@[simp] theorem setLine_evtLog (l : Line) (v : Bool) (s : State) : (setLine l v s).evtLog = s.evtLog := by cases l <;> rfl
@[simp] theorem setLine_host (l : Line) (v : Bool) (s : State) : (setLine l v s).host = s.host := by cases l <;> rfl
@[simp] theorem setLine_schedule (l : Line) (v : Bool) (s : State) : (setLine l v s).schedule = s.schedule := by cases l <;> rfl
@[simp] theorem setLine_freeCount (l : Line) (v : Bool) (s : State) : (setLine l v s).freeCount = s.freeCount := by cases l <;> rfl

/-- Setting a line sets its register and no other line's. -/
@[simp] theorem lineReg_setLine (k l : Line) (v : Bool) (s : State) :
    lineReg k (setLine l v s) = if k = l then v else lineReg k s := by cases k <;> cases l <;> rfl

/-! ## lineWrite -/

@[simp] theorem lineWrite_config (l : Line) (v : Bool) (s : State) : (lineWrite l v s).config = s.config := by unfold lineWrite; split <;> simp
@[simp] theorem lineWrite_seq (l : Line) (v : Bool) (s : State) : (lineWrite l v s).seq = s.seq := by unfold lineWrite; split <;> simp
@[simp] theorem lineWrite_txNm (l : Line) (v : Bool) (s : State) : (lineWrite l v s).txNm = s.txNm := by unfold lineWrite; split <;> simp
@[simp] theorem lineWrite_dlyTarget (l : Line) (v : Bool) (s : State) : (lineWrite l v s).dlyTarget = s.dlyTarget := by unfold lineWrite; split <;> simp
@[simp] theorem lineWrite_dlyElapsed (l : Line) (v : Bool) (s : State) : (lineWrite l v s).dlyElapsed = s.dlyElapsed := by unfold lineWrite; split <;> simp
@[simp] theorem lineWrite_initDone (l : Line) (v : Bool) (s : State) : (lineWrite l v s).initDone = s.initDone := by unfold lineWrite; split <;> simp
@[simp] theorem lineWrite_pending (l : Line) (v : Bool) (s : State) : (lineWrite l v s).pending = s.pending := by unfold lineWrite; split <;> simp
@[simp] theorem lineWrite_cbMask (l : Line) (v : Bool) (s : State) : (lineWrite l v s).cbMask = s.cbMask := by unfold lineWrite; split <;> simp
@[simp] theorem lineWrite_pollLast (l : Line) (v : Bool) (s : State) : (lineWrite l v s).pollLast = s.pollLast := by unfold lineWrite; split <;> simp
@[simp] theorem lineWrite_pollInam (l : Line) (v : Bool) (s : State) : (lineWrite l v s).pollInam = s.pollInam := by unfold lineWrite; split <;> simp
@[simp] theorem lineWrite_drLvl (l : Line) (v : Bool) (s : State) : (lineWrite l v s).drLvl = s.drLvl := by unfold lineWrite; split <;> simp
@[simp] theorem lineWrite_amLvl (l : Line) (v : Bool) (s : State) : (lineWrite l v s).amLvl = s.amLvl := by unfold lineWrite; split <;> simp
@[simp] theorem lineWrite_cdLvl (l : Line) (v : Bool) (s : State) : (lineWrite l v s).cdLvl = s.cdLvl := by unfold lineWrite; split <;> simp
@[simp] theorem lineWrite_irqDrPend (l : Line) (v : Bool) (s : State) : (lineWrite l v s).irqDrPend = s.irqDrPend := by unfold lineWrite; split <;> simp
@[simp] theorem lineWrite_irqAmPend (l : Line) (v : Bool) (s : State) : (lineWrite l v s).irqAmPend = s.irqAmPend := by unfold lineWrite; split <;> simp
@[simp] theorem lineWrite_refused (l : Line) (v : Bool) (s : State) : (lineWrite l v s).refused = s.refused := by unfold lineWrite; split <;> simp
@[simp] theorem lineWrite_refuseReason (l : Line) (v : Bool) (s : State) : (lineWrite l v s).refuseReason = s.refuseReason := by unfold lineWrite; split <;> simp
@[simp] theorem lineWrite_now (l : Line) (v : Bool) (s : State) : (lineWrite l v s).now = s.now := by unfold lineWrite; split <;> simp
@[simp] theorem lineWrite_respLog (l : Line) (v : Bool) (s : State) : (lineWrite l v s).respLog = s.respLog := by unfold lineWrite; split <;> simp
@[simp] theorem lineWrite_evtLog (l : Line) (v : Bool) (s : State) : (lineWrite l v s).evtLog = s.evtLog := by unfold lineWrite; split <;> simp
@[simp] theorem lineWrite_host (l : Line) (v : Bool) (s : State) : (lineWrite l v s).host = s.host := by unfold lineWrite; split <;> simp
@[simp] theorem lineWrite_schedule (l : Line) (v : Bool) (s : State) : (lineWrite l v s).schedule = s.schedule := by unfold lineWrite; split <;> simp
@[simp] theorem lineWrite_freeCount (l : Line) (v : Bool) (s : State) : (lineWrite l v s).freeCount = s.freeCount := by unfold lineWrite; split <;> simp

/-- A line write sets its register when the line is present, and no other line's. -/
@[simp] theorem lineReg_lineWrite (k l : Line) (v : Bool) (s : State) :
    lineReg k (lineWrite l v s) = if k = l ∧ s.config.hasLine l = true then v else lineReg k s := by
  unfold lineWrite
  split <;> rename_i h
  · simp only [h, and_true]
    cases k <;> cases l <;> rfl
  · simp [h]

/-- A line write appends one record when the line is present, and none otherwise. -/
@[simp] theorem lineWrite_lineTrace (l : Line) (v : Bool) (s : State) :
    (lineWrite l v s).lineTrace = s.lineTrace ++ (if s.config.hasLine l then [⟨s.now, l, v⟩] else []) := by
  unfold lineWrite
  split <;> simp

/-! ## startWait -/

@[simp] theorem startWait_config (n : Nat) (q : Seq) (s : State) : (startWait n q s).config = s.config := rfl
@[simp] theorem startWait_linePwr (n : Nat) (q : Seq) (s : State) : (startWait n q s).linePwr = s.linePwr := rfl
@[simp] theorem startWait_lineStby (n : Nat) (q : Seq) (s : State) : (startWait n q s).lineStby = s.lineStby := rfl
@[simp] theorem startWait_lineTxen (n : Nat) (q : Seq) (s : State) : (startWait n q s).lineTxen = s.lineTxen := rfl
@[simp] theorem startWait_txNm (n : Nat) (q : Seq) (s : State) : (startWait n q s).txNm = s.txNm := rfl
@[simp] theorem startWait_initDone (n : Nat) (q : Seq) (s : State) : (startWait n q s).initDone = s.initDone := rfl
@[simp] theorem startWait_pending (n : Nat) (q : Seq) (s : State) : (startWait n q s).pending = s.pending := rfl
@[simp] theorem startWait_cbMask (n : Nat) (q : Seq) (s : State) : (startWait n q s).cbMask = s.cbMask := rfl
@[simp] theorem startWait_pollLast (n : Nat) (q : Seq) (s : State) : (startWait n q s).pollLast = s.pollLast := rfl
@[simp] theorem startWait_pollInam (n : Nat) (q : Seq) (s : State) : (startWait n q s).pollInam = s.pollInam := rfl
@[simp] theorem startWait_drLvl (n : Nat) (q : Seq) (s : State) : (startWait n q s).drLvl = s.drLvl := rfl
@[simp] theorem startWait_amLvl (n : Nat) (q : Seq) (s : State) : (startWait n q s).amLvl = s.amLvl := rfl
@[simp] theorem startWait_cdLvl (n : Nat) (q : Seq) (s : State) : (startWait n q s).cdLvl = s.cdLvl := rfl
@[simp] theorem startWait_irqDrPend (n : Nat) (q : Seq) (s : State) : (startWait n q s).irqDrPend = s.irqDrPend := rfl
@[simp] theorem startWait_irqAmPend (n : Nat) (q : Seq) (s : State) : (startWait n q s).irqAmPend = s.irqAmPend := rfl
@[simp] theorem startWait_refused (n : Nat) (q : Seq) (s : State) : (startWait n q s).refused = s.refused := rfl
@[simp] theorem startWait_refuseReason (n : Nat) (q : Seq) (s : State) : (startWait n q s).refuseReason = s.refuseReason := rfl
@[simp] theorem startWait_now (n : Nat) (q : Seq) (s : State) : (startWait n q s).now = s.now := rfl
@[simp] theorem startWait_lineTrace (n : Nat) (q : Seq) (s : State) : (startWait n q s).lineTrace = s.lineTrace := rfl
@[simp] theorem startWait_respLog (n : Nat) (q : Seq) (s : State) : (startWait n q s).respLog = s.respLog := rfl
@[simp] theorem startWait_evtLog (n : Nat) (q : Seq) (s : State) : (startWait n q s).evtLog = s.evtLog := rfl
@[simp] theorem startWait_host (n : Nat) (q : Seq) (s : State) : (startWait n q s).host = s.host := rfl
@[simp] theorem startWait_schedule (n : Nat) (q : Seq) (s : State) : (startWait n q s).schedule = s.schedule := rfl
@[simp] theorem startWait_freeCount (n : Nat) (q : Seq) (s : State) : (startWait n q s).freeCount = s.freeCount := rfl

@[simp] theorem startWait_dlyTarget (n : Nat) (q : Seq) (s : State) : (startWait n q s).dlyTarget = BitVec.ofNat 16 n := rfl
@[simp] theorem startWait_dlyElapsed (n : Nat) (q : Seq) (s : State) : (startWait n q s).dlyElapsed = 0 := rfl
@[simp] theorem startWait_seq (n : Nat) (q : Seq) (s : State) : (startWait n q s).seq = q := rfl

/-! ## respond -/

@[simp] theorem respond_config (op : CommandOp) (v : Word) (s : State) : (respond op v s).config = s.config := rfl
@[simp] theorem respond_linePwr (op : CommandOp) (v : Word) (s : State) : (respond op v s).linePwr = s.linePwr := rfl
@[simp] theorem respond_lineStby (op : CommandOp) (v : Word) (s : State) : (respond op v s).lineStby = s.lineStby := rfl
@[simp] theorem respond_lineTxen (op : CommandOp) (v : Word) (s : State) : (respond op v s).lineTxen = s.lineTxen := rfl
@[simp] theorem respond_txNm (op : CommandOp) (v : Word) (s : State) : (respond op v s).txNm = s.txNm := rfl
@[simp] theorem respond_dlyTarget (op : CommandOp) (v : Word) (s : State) : (respond op v s).dlyTarget = s.dlyTarget := rfl
@[simp] theorem respond_dlyElapsed (op : CommandOp) (v : Word) (s : State) : (respond op v s).dlyElapsed = s.dlyElapsed := rfl
@[simp] theorem respond_initDone (op : CommandOp) (v : Word) (s : State) : (respond op v s).initDone = s.initDone := rfl
@[simp] theorem respond_pending (op : CommandOp) (v : Word) (s : State) : (respond op v s).pending = s.pending := rfl
@[simp] theorem respond_cbMask (op : CommandOp) (v : Word) (s : State) : (respond op v s).cbMask = s.cbMask := rfl
@[simp] theorem respond_pollLast (op : CommandOp) (v : Word) (s : State) : (respond op v s).pollLast = s.pollLast := rfl
@[simp] theorem respond_pollInam (op : CommandOp) (v : Word) (s : State) : (respond op v s).pollInam = s.pollInam := rfl
@[simp] theorem respond_drLvl (op : CommandOp) (v : Word) (s : State) : (respond op v s).drLvl = s.drLvl := rfl
@[simp] theorem respond_amLvl (op : CommandOp) (v : Word) (s : State) : (respond op v s).amLvl = s.amLvl := rfl
@[simp] theorem respond_cdLvl (op : CommandOp) (v : Word) (s : State) : (respond op v s).cdLvl = s.cdLvl := rfl
@[simp] theorem respond_irqDrPend (op : CommandOp) (v : Word) (s : State) : (respond op v s).irqDrPend = s.irqDrPend := rfl
@[simp] theorem respond_irqAmPend (op : CommandOp) (v : Word) (s : State) : (respond op v s).irqAmPend = s.irqAmPend := rfl
@[simp] theorem respond_refused (op : CommandOp) (v : Word) (s : State) : (respond op v s).refused = s.refused := rfl
@[simp] theorem respond_refuseReason (op : CommandOp) (v : Word) (s : State) : (respond op v s).refuseReason = s.refuseReason := rfl
@[simp] theorem respond_now (op : CommandOp) (v : Word) (s : State) : (respond op v s).now = s.now := rfl
@[simp] theorem respond_lineTrace (op : CommandOp) (v : Word) (s : State) : (respond op v s).lineTrace = s.lineTrace := rfl
@[simp] theorem respond_evtLog (op : CommandOp) (v : Word) (s : State) : (respond op v s).evtLog = s.evtLog := rfl
@[simp] theorem respond_host (op : CommandOp) (v : Word) (s : State) : (respond op v s).host = s.host := rfl
@[simp] theorem respond_schedule (op : CommandOp) (v : Word) (s : State) : (respond op v s).schedule = s.schedule := rfl
@[simp] theorem respond_freeCount (op : CommandOp) (v : Word) (s : State) : (respond op v s).freeCount = s.freeCount := rfl

@[simp] theorem respond_respLog (op : CommandOp) (v : Word) (s : State) :
    (respond op v s).respLog = s.respLog ++ [⟨s.now, op, v⟩] := rfl
@[simp] theorem respond_seq (op : CommandOp) (v : Word) (s : State) : (respond op v s).seq = .idle := rfl

/-! ## emit -/

@[simp] theorem emit_config (ctx : Ctx) (e : Event) (s : State) : (emit ctx e s).config = s.config := rfl
@[simp] theorem emit_linePwr (ctx : Ctx) (e : Event) (s : State) : (emit ctx e s).linePwr = s.linePwr := rfl
@[simp] theorem emit_lineStby (ctx : Ctx) (e : Event) (s : State) : (emit ctx e s).lineStby = s.lineStby := rfl
@[simp] theorem emit_lineTxen (ctx : Ctx) (e : Event) (s : State) : (emit ctx e s).lineTxen = s.lineTxen := rfl
@[simp] theorem emit_seq (ctx : Ctx) (e : Event) (s : State) : (emit ctx e s).seq = s.seq := rfl
@[simp] theorem emit_txNm (ctx : Ctx) (e : Event) (s : State) : (emit ctx e s).txNm = s.txNm := rfl
@[simp] theorem emit_dlyTarget (ctx : Ctx) (e : Event) (s : State) : (emit ctx e s).dlyTarget = s.dlyTarget := rfl
@[simp] theorem emit_dlyElapsed (ctx : Ctx) (e : Event) (s : State) : (emit ctx e s).dlyElapsed = s.dlyElapsed := rfl
@[simp] theorem emit_initDone (ctx : Ctx) (e : Event) (s : State) : (emit ctx e s).initDone = s.initDone := rfl
@[simp] theorem emit_pending (ctx : Ctx) (e : Event) (s : State) : (emit ctx e s).pending = s.pending := rfl
@[simp] theorem emit_cbMask (ctx : Ctx) (e : Event) (s : State) : (emit ctx e s).cbMask = s.cbMask := rfl
@[simp] theorem emit_pollLast (ctx : Ctx) (e : Event) (s : State) : (emit ctx e s).pollLast = s.pollLast := rfl
@[simp] theorem emit_pollInam (ctx : Ctx) (e : Event) (s : State) : (emit ctx e s).pollInam = s.pollInam := rfl
@[simp] theorem emit_drLvl (ctx : Ctx) (e : Event) (s : State) : (emit ctx e s).drLvl = s.drLvl := rfl
@[simp] theorem emit_amLvl (ctx : Ctx) (e : Event) (s : State) : (emit ctx e s).amLvl = s.amLvl := rfl
@[simp] theorem emit_cdLvl (ctx : Ctx) (e : Event) (s : State) : (emit ctx e s).cdLvl = s.cdLvl := rfl
@[simp] theorem emit_irqDrPend (ctx : Ctx) (e : Event) (s : State) : (emit ctx e s).irqDrPend = s.irqDrPend := rfl
@[simp] theorem emit_irqAmPend (ctx : Ctx) (e : Event) (s : State) : (emit ctx e s).irqAmPend = s.irqAmPend := rfl
@[simp] theorem emit_refused (ctx : Ctx) (e : Event) (s : State) : (emit ctx e s).refused = s.refused := rfl
@[simp] theorem emit_refuseReason (ctx : Ctx) (e : Event) (s : State) : (emit ctx e s).refuseReason = s.refuseReason := rfl
@[simp] theorem emit_now (ctx : Ctx) (e : Event) (s : State) : (emit ctx e s).now = s.now := rfl
@[simp] theorem emit_lineTrace (ctx : Ctx) (e : Event) (s : State) : (emit ctx e s).lineTrace = s.lineTrace := rfl
@[simp] theorem emit_respLog (ctx : Ctx) (e : Event) (s : State) : (emit ctx e s).respLog = s.respLog := rfl
@[simp] theorem emit_host (ctx : Ctx) (e : Event) (s : State) : (emit ctx e s).host = s.host := rfl
@[simp] theorem emit_schedule (ctx : Ctx) (e : Event) (s : State) : (emit ctx e s).schedule = s.schedule := rfl
@[simp] theorem emit_freeCount (ctx : Ctx) (e : Event) (s : State) : (emit ctx e s).freeCount = s.freeCount := rfl

@[simp] theorem emit_evtLog (ctx : Ctx) (e : Event) (s : State) :
    (emit ctx e s).evtLog = s.evtLog ++ [⟨s.now, ctx, e, registered e s⟩] := rfl

/-! ## raiseRefuse -/

@[simp] theorem raiseRefuse_config (r : RefuseReason) (s : State) : (raiseRefuse r s).config = s.config := rfl
@[simp] theorem raiseRefuse_linePwr (r : RefuseReason) (s : State) : (raiseRefuse r s).linePwr = s.linePwr := rfl
@[simp] theorem raiseRefuse_lineStby (r : RefuseReason) (s : State) : (raiseRefuse r s).lineStby = s.lineStby := rfl
@[simp] theorem raiseRefuse_lineTxen (r : RefuseReason) (s : State) : (raiseRefuse r s).lineTxen = s.lineTxen := rfl
@[simp] theorem raiseRefuse_seq (r : RefuseReason) (s : State) : (raiseRefuse r s).seq = s.seq := rfl
@[simp] theorem raiseRefuse_txNm (r : RefuseReason) (s : State) : (raiseRefuse r s).txNm = s.txNm := rfl
@[simp] theorem raiseRefuse_dlyTarget (r : RefuseReason) (s : State) : (raiseRefuse r s).dlyTarget = s.dlyTarget := rfl
@[simp] theorem raiseRefuse_dlyElapsed (r : RefuseReason) (s : State) : (raiseRefuse r s).dlyElapsed = s.dlyElapsed := rfl
@[simp] theorem raiseRefuse_initDone (r : RefuseReason) (s : State) : (raiseRefuse r s).initDone = s.initDone := rfl
@[simp] theorem raiseRefuse_pending (r : RefuseReason) (s : State) : (raiseRefuse r s).pending = s.pending := rfl
@[simp] theorem raiseRefuse_cbMask (r : RefuseReason) (s : State) : (raiseRefuse r s).cbMask = s.cbMask := rfl
@[simp] theorem raiseRefuse_pollLast (r : RefuseReason) (s : State) : (raiseRefuse r s).pollLast = s.pollLast := rfl
@[simp] theorem raiseRefuse_pollInam (r : RefuseReason) (s : State) : (raiseRefuse r s).pollInam = s.pollInam := rfl
@[simp] theorem raiseRefuse_drLvl (r : RefuseReason) (s : State) : (raiseRefuse r s).drLvl = s.drLvl := rfl
@[simp] theorem raiseRefuse_amLvl (r : RefuseReason) (s : State) : (raiseRefuse r s).amLvl = s.amLvl := rfl
@[simp] theorem raiseRefuse_cdLvl (r : RefuseReason) (s : State) : (raiseRefuse r s).cdLvl = s.cdLvl := rfl
@[simp] theorem raiseRefuse_irqDrPend (r : RefuseReason) (s : State) : (raiseRefuse r s).irqDrPend = s.irqDrPend := rfl
@[simp] theorem raiseRefuse_irqAmPend (r : RefuseReason) (s : State) : (raiseRefuse r s).irqAmPend = s.irqAmPend := rfl
@[simp] theorem raiseRefuse_now (r : RefuseReason) (s : State) : (raiseRefuse r s).now = s.now := rfl
@[simp] theorem raiseRefuse_lineTrace (r : RefuseReason) (s : State) : (raiseRefuse r s).lineTrace = s.lineTrace := rfl
@[simp] theorem raiseRefuse_respLog (r : RefuseReason) (s : State) : (raiseRefuse r s).respLog = s.respLog := rfl
@[simp] theorem raiseRefuse_evtLog (r : RefuseReason) (s : State) : (raiseRefuse r s).evtLog = s.evtLog := rfl
@[simp] theorem raiseRefuse_host (r : RefuseReason) (s : State) : (raiseRefuse r s).host = s.host := rfl
@[simp] theorem raiseRefuse_schedule (r : RefuseReason) (s : State) : (raiseRefuse r s).schedule = s.schedule := rfl
@[simp] theorem raiseRefuse_freeCount (r : RefuseReason) (s : State) : (raiseRefuse r s).freeCount = s.freeCount := rfl

@[simp] theorem raiseRefuse_refused (r : RefuseReason) (s : State) : (raiseRefuse r s).refused = true := rfl
@[simp] theorem raiseRefuse_refuseReason (r : RefuseReason) (s : State) :
    (raiseRefuse r s).refuseReason = if s.refused then s.refuseReason else r := rfl

/-! ## latchEdges -/

@[simp] theorem latchEdges_config (dr am : Bool) (s : State) : (latchEdges dr am s).config = s.config := rfl
@[simp] theorem latchEdges_linePwr (dr am : Bool) (s : State) : (latchEdges dr am s).linePwr = s.linePwr := rfl
@[simp] theorem latchEdges_lineStby (dr am : Bool) (s : State) : (latchEdges dr am s).lineStby = s.lineStby := rfl
@[simp] theorem latchEdges_lineTxen (dr am : Bool) (s : State) : (latchEdges dr am s).lineTxen = s.lineTxen := rfl
@[simp] theorem latchEdges_seq (dr am : Bool) (s : State) : (latchEdges dr am s).seq = s.seq := rfl
@[simp] theorem latchEdges_txNm (dr am : Bool) (s : State) : (latchEdges dr am s).txNm = s.txNm := rfl
@[simp] theorem latchEdges_dlyTarget (dr am : Bool) (s : State) : (latchEdges dr am s).dlyTarget = s.dlyTarget := rfl
@[simp] theorem latchEdges_dlyElapsed (dr am : Bool) (s : State) : (latchEdges dr am s).dlyElapsed = s.dlyElapsed := rfl
@[simp] theorem latchEdges_initDone (dr am : Bool) (s : State) : (latchEdges dr am s).initDone = s.initDone := rfl
@[simp] theorem latchEdges_pending (dr am : Bool) (s : State) : (latchEdges dr am s).pending = s.pending := rfl
@[simp] theorem latchEdges_cbMask (dr am : Bool) (s : State) : (latchEdges dr am s).cbMask = s.cbMask := rfl
@[simp] theorem latchEdges_pollLast (dr am : Bool) (s : State) : (latchEdges dr am s).pollLast = s.pollLast := rfl
@[simp] theorem latchEdges_pollInam (dr am : Bool) (s : State) : (latchEdges dr am s).pollInam = s.pollInam := rfl
@[simp] theorem latchEdges_drLvl (dr am : Bool) (s : State) : (latchEdges dr am s).drLvl = s.drLvl := rfl
@[simp] theorem latchEdges_amLvl (dr am : Bool) (s : State) : (latchEdges dr am s).amLvl = s.amLvl := rfl
@[simp] theorem latchEdges_cdLvl (dr am : Bool) (s : State) : (latchEdges dr am s).cdLvl = s.cdLvl := rfl
@[simp] theorem latchEdges_refused (dr am : Bool) (s : State) : (latchEdges dr am s).refused = s.refused := rfl
@[simp] theorem latchEdges_refuseReason (dr am : Bool) (s : State) : (latchEdges dr am s).refuseReason = s.refuseReason := rfl
@[simp] theorem latchEdges_now (dr am : Bool) (s : State) : (latchEdges dr am s).now = s.now := rfl
@[simp] theorem latchEdges_lineTrace (dr am : Bool) (s : State) : (latchEdges dr am s).lineTrace = s.lineTrace := rfl
@[simp] theorem latchEdges_respLog (dr am : Bool) (s : State) : (latchEdges dr am s).respLog = s.respLog := rfl
@[simp] theorem latchEdges_evtLog (dr am : Bool) (s : State) : (latchEdges dr am s).evtLog = s.evtLog := rfl
@[simp] theorem latchEdges_host (dr am : Bool) (s : State) : (latchEdges dr am s).host = s.host := rfl
@[simp] theorem latchEdges_schedule (dr am : Bool) (s : State) : (latchEdges dr am s).schedule = s.schedule := rfl
@[simp] theorem latchEdges_freeCount (dr am : Bool) (s : State) : (latchEdges dr am s).freeCount = s.freeCount := rfl


end Sys2Proof.Machine
end

