-- ==== Sys2Proof/Laws/Steps.lean ====
section
/-! SUPPORT. What each meaning and each turn can do, said once: line writes as one record update each, every meaning and
every turn answers a next state, and the model's own fields that a turn leaves alone. -/

namespace Sys2Proof.Machine

/-! ## Line writes as record updates -/

theorem lineWrite_pwr (v : Bool) (s : State) :
    lineWrite .pwr v s = { s with
      linePwr := if s.config.hasPwr then v else s.linePwr
      lineTrace := s.lineTrace ++ (if s.config.hasPwr then [⟨s.now, .pwr, v⟩] else []) } := by
  unfold lineWrite
  cases h : s.config.hasPwr <;> simp [Config.hasLine, setLine, h]

theorem lineWrite_stby (v : Bool) (s : State) :
    lineWrite .stby v s = { s with
      lineStby := if s.config.hasStby then v else s.lineStby
      lineTrace := s.lineTrace ++ (if s.config.hasStby then [⟨s.now, .stby, v⟩] else []) } := by
  unfold lineWrite
  cases h : s.config.hasStby <;> simp [Config.hasLine, setLine, h]

theorem lineWrite_txen (v : Bool) (s : State) :
    lineWrite .txen v s = { s with
      lineTxen := if s.config.hasTxen then v else s.lineTxen
      lineTrace := s.lineTrace ++ (if s.config.hasTxen then [⟨s.now, .txen, v⟩] else []) } := by
  unfold lineWrite
  cases h : s.config.hasTxen <;> simp [Config.hasLine, setLine, h]

/-! ## Totality: the machine has no fault, and a meaning never refuses by outcome -/

/-- Every instruction answers a next state, in every state. -/
theorem exec_next (i : Instr) (s : State) : ∃ t, exec i s = .next t := by
  cases i with
  | tx nm ca => simp only [exec, execTx]; split <;> [skip; split] <;> exact ⟨_, rfl⟩
  | poll => simp only [exec, execPoll]; split <;> exact ⟨_, rfl⟩
  | _ => exact ⟨_, rfl⟩

/-- Every word answers a next state: its command's, or the refusal mark. -/
theorem acceptWord_next (w : Word) (s : State) : ∃ t, acceptWord w s = .next t := by
  unfold acceptWord
  split
  · exact exec_next _ _
  · exact ⟨_, rfl⟩

/-- Every turn answers a next state. -/
theorem takeTurn_next (x : Turn) (s : State) : ∃ t, takeTurn x s = .next t := by
  cases x with
  | host =>
    simp only [takeTurn, hostTurn]
    split
    · split <;> exact acceptWord_next _ _
    · exact ⟨_, rfl⟩
  | irqDr => simp only [takeTurn, irqDrTurn]; split <;> [exact exec_next _ _; exact ⟨_, rfl⟩]
  | irqAm => simp only [takeTurn, irqAmTurn]; split <;> [exact exec_next _ _; exact ⟨_, rfl⟩]
  | _ => exact ⟨_, rfl⟩

/-! ## What a host's turn can do -/

/-- A host's turn holds, or accepts a command, or refuses a word; `s'` is `s` with the word taken from the host. -/
theorem hostTurn_cases {s t : State} (h : hostTurn s = .next t) :
    (portOpen s = false ∧ t = s) ∨
    (portOpen s = true ∧ ∃ ws n, (∃ i : Instr, i.isCommand = true ∧ exec i { s with host := ws, freeCount := n } = .next t) ∨
      ∃ r, r ≠ .none ∧ t = raiseRefuse r { s with host := ws, freeCount := n }) := by
  have accept : ∀ (w : Word) (s' : State), acceptWord w s' = .next t →
      (∃ i : Instr, i.isCommand = true ∧ exec i s' = .next t) ∨ ∃ r, r ≠ .none ∧ t = raiseRefuse r s' := by
    intro w s' h'
    unfold acceptWord at h'
    split at h'
    · rename_i i hi
      refine .inl ⟨i, ?_, h'⟩
      revert hi
      unfold decodeCommand decodeNoOperand decodeTx
      (repeat' split) <;> intro hi <;> cases hi <;> rfl
    · rename_i r hr
      refine .inr ⟨r, ?_, by simpa using h'.symm⟩
      rintro rfl
      revert hr
      unfold decodeCommand decodeNoOperand decodeTx
      (repeat' split) <;> intro hr <;> cases hr
  unfold hostTurn at h
  split at h
  · rename_i hp
    refine .inr ⟨hp, ?_⟩
    split at h
    · exact ⟨_, s.freeCount, accept _ _ h⟩
    · rename_i hw
      refine ⟨[], s.freeCount + 1, ?_⟩
      have := accept _ _ h
      rwa [show ({ s with freeCount := s.freeCount + 1 } : State) = { s with host := [], freeCount := s.freeCount + 1 } by
        rw [← hw]] at this
  · rename_i hp
    exact .inl ⟨by simpa using hp, by simpa using h.symm⟩

end Sys2Proof.Machine
end

