-- ==== Sys2Proof/Laws/Frames.lean ====
section
/-! SUPPORT. The frames of the composite operations: for each, one lemma per field of State that it leaves as it was, tagged
for simp, so that a proof about a meaning does not unfold them. -/

namespace Sys2Proof.Machine

/-! ## txStart -/

@[simp] theorem txStart_config (nm : NextMode) (m : Mode) (s : State) : (txStart nm m s).config = s.config := by
  unfold txStart; cases nm <;> by_cases h : m = .standby <;> simp [h, lineWrite_stby, lineWrite_txen]
@[simp] theorem txStart_linePwr (nm : NextMode) (m : Mode) (s : State) : (txStart nm m s).linePwr = s.linePwr := by
  unfold txStart; cases nm <;> by_cases h : m = .standby <;> simp [h, lineWrite_stby, lineWrite_txen]
@[simp] theorem txStart_txNm (nm : NextMode) (m : Mode) (s : State) : (txStart nm m s).txNm = s.txNm := by
  unfold txStart; cases nm <;> by_cases h : m = .standby <;> simp [h, lineWrite_stby, lineWrite_txen]
@[simp] theorem txStart_initDone (nm : NextMode) (m : Mode) (s : State) : (txStart nm m s).initDone = s.initDone := by
  unfold txStart; cases nm <;> by_cases h : m = .standby <;> simp [h, lineWrite_stby, lineWrite_txen]
@[simp] theorem txStart_pending (nm : NextMode) (m : Mode) (s : State) : (txStart nm m s).pending = s.pending := by
  unfold txStart; cases nm <;> by_cases h : m = .standby <;> simp [h, lineWrite_stby, lineWrite_txen]
@[simp] theorem txStart_cbMask (nm : NextMode) (m : Mode) (s : State) : (txStart nm m s).cbMask = s.cbMask := by
  unfold txStart; cases nm <;> by_cases h : m = .standby <;> simp [h, lineWrite_stby, lineWrite_txen]
@[simp] theorem txStart_pollLast (nm : NextMode) (m : Mode) (s : State) : (txStart nm m s).pollLast = s.pollLast := by
  unfold txStart; cases nm <;> by_cases h : m = .standby <;> simp [h, lineWrite_stby, lineWrite_txen]
@[simp] theorem txStart_pollInam (nm : NextMode) (m : Mode) (s : State) : (txStart nm m s).pollInam = s.pollInam := by
  unfold txStart; cases nm <;> by_cases h : m = .standby <;> simp [h, lineWrite_stby, lineWrite_txen]
@[simp] theorem txStart_drLvl (nm : NextMode) (m : Mode) (s : State) : (txStart nm m s).drLvl = s.drLvl := by
  unfold txStart; cases nm <;> by_cases h : m = .standby <;> simp [h, lineWrite_stby, lineWrite_txen]
@[simp] theorem txStart_amLvl (nm : NextMode) (m : Mode) (s : State) : (txStart nm m s).amLvl = s.amLvl := by
  unfold txStart; cases nm <;> by_cases h : m = .standby <;> simp [h, lineWrite_stby, lineWrite_txen]
@[simp] theorem txStart_cdLvl (nm : NextMode) (m : Mode) (s : State) : (txStart nm m s).cdLvl = s.cdLvl := by
  unfold txStart; cases nm <;> by_cases h : m = .standby <;> simp [h, lineWrite_stby, lineWrite_txen]
@[simp] theorem txStart_irqDrPend (nm : NextMode) (m : Mode) (s : State) : (txStart nm m s).irqDrPend = s.irqDrPend := by
  unfold txStart; cases nm <;> by_cases h : m = .standby <;> simp [h, lineWrite_stby, lineWrite_txen]
@[simp] theorem txStart_irqAmPend (nm : NextMode) (m : Mode) (s : State) : (txStart nm m s).irqAmPend = s.irqAmPend := by
  unfold txStart; cases nm <;> by_cases h : m = .standby <;> simp [h, lineWrite_stby, lineWrite_txen]
@[simp] theorem txStart_refused (nm : NextMode) (m : Mode) (s : State) : (txStart nm m s).refused = s.refused := by
  unfold txStart; cases nm <;> by_cases h : m = .standby <;> simp [h, lineWrite_stby, lineWrite_txen]
@[simp] theorem txStart_refuseReason (nm : NextMode) (m : Mode) (s : State) : (txStart nm m s).refuseReason = s.refuseReason := by
  unfold txStart; cases nm <;> by_cases h : m = .standby <;> simp [h, lineWrite_stby, lineWrite_txen]
@[simp] theorem txStart_now (nm : NextMode) (m : Mode) (s : State) : (txStart nm m s).now = s.now := by
  unfold txStart; cases nm <;> by_cases h : m = .standby <;> simp [h, lineWrite_stby, lineWrite_txen]
@[simp] theorem txStart_evtLog (nm : NextMode) (m : Mode) (s : State) : (txStart nm m s).evtLog = s.evtLog := by
  unfold txStart; cases nm <;> by_cases h : m = .standby <;> simp [h, lineWrite_stby, lineWrite_txen]
@[simp] theorem txStart_host (nm : NextMode) (m : Mode) (s : State) : (txStart nm m s).host = s.host := by
  unfold txStart; cases nm <;> by_cases h : m = .standby <;> simp [h, lineWrite_stby, lineWrite_txen]
@[simp] theorem txStart_schedule (nm : NextMode) (m : Mode) (s : State) : (txStart nm m s).schedule = s.schedule := by
  unfold txStart; cases nm <;> by_cases h : m = .standby <;> simp [h, lineWrite_stby, lineWrite_txen]
@[simp] theorem txStart_freeCount (nm : NextMode) (m : Mode) (s : State) : (txStart nm m s).freeCount = s.freeCount := by
  unfold txStart; cases nm <;> by_cases h : m = .standby <;> simp [h, lineWrite_stby, lineWrite_txen]

/-! ## txFromPowerDown -/

@[simp] theorem txFromPowerDown_config (nm : NextMode) (s : State) : (txFromPowerDown nm s).config = s.config := by
  unfold txFromPowerDown; cases nm <;> simp
@[simp] theorem txFromPowerDown_initDone (nm : NextMode) (s : State) : (txFromPowerDown nm s).initDone = s.initDone := by
  unfold txFromPowerDown; cases nm <;> simp
@[simp] theorem txFromPowerDown_pending (nm : NextMode) (s : State) : (txFromPowerDown nm s).pending = s.pending := by
  unfold txFromPowerDown; cases nm <;> simp
@[simp] theorem txFromPowerDown_cbMask (nm : NextMode) (s : State) : (txFromPowerDown nm s).cbMask = s.cbMask := by
  unfold txFromPowerDown; cases nm <;> simp
@[simp] theorem txFromPowerDown_pollLast (nm : NextMode) (s : State) : (txFromPowerDown nm s).pollLast = s.pollLast := by
  unfold txFromPowerDown; cases nm <;> simp
@[simp] theorem txFromPowerDown_pollInam (nm : NextMode) (s : State) : (txFromPowerDown nm s).pollInam = s.pollInam := by
  unfold txFromPowerDown; cases nm <;> simp
@[simp] theorem txFromPowerDown_drLvl (nm : NextMode) (s : State) : (txFromPowerDown nm s).drLvl = s.drLvl := by
  unfold txFromPowerDown; cases nm <;> simp
@[simp] theorem txFromPowerDown_amLvl (nm : NextMode) (s : State) : (txFromPowerDown nm s).amLvl = s.amLvl := by
  unfold txFromPowerDown; cases nm <;> simp
@[simp] theorem txFromPowerDown_cdLvl (nm : NextMode) (s : State) : (txFromPowerDown nm s).cdLvl = s.cdLvl := by
  unfold txFromPowerDown; cases nm <;> simp
@[simp] theorem txFromPowerDown_irqDrPend (nm : NextMode) (s : State) : (txFromPowerDown nm s).irqDrPend = s.irqDrPend := by
  unfold txFromPowerDown; cases nm <;> simp
@[simp] theorem txFromPowerDown_irqAmPend (nm : NextMode) (s : State) : (txFromPowerDown nm s).irqAmPend = s.irqAmPend := by
  unfold txFromPowerDown; cases nm <;> simp
@[simp] theorem txFromPowerDown_refused (nm : NextMode) (s : State) : (txFromPowerDown nm s).refused = s.refused := by
  unfold txFromPowerDown; cases nm <;> simp
@[simp] theorem txFromPowerDown_refuseReason (nm : NextMode) (s : State) : (txFromPowerDown nm s).refuseReason = s.refuseReason := by
  unfold txFromPowerDown; cases nm <;> simp
@[simp] theorem txFromPowerDown_now (nm : NextMode) (s : State) : (txFromPowerDown nm s).now = s.now := by
  unfold txFromPowerDown; cases nm <;> simp
@[simp] theorem txFromPowerDown_evtLog (nm : NextMode) (s : State) : (txFromPowerDown nm s).evtLog = s.evtLog := by
  unfold txFromPowerDown; cases nm <;> simp
@[simp] theorem txFromPowerDown_host (nm : NextMode) (s : State) : (txFromPowerDown nm s).host = s.host := by
  unfold txFromPowerDown; cases nm <;> simp
@[simp] theorem txFromPowerDown_schedule (nm : NextMode) (s : State) : (txFromPowerDown nm s).schedule = s.schedule := by
  unfold txFromPowerDown; cases nm <;> simp
@[simp] theorem txFromPowerDown_freeCount (nm : NextMode) (s : State) : (txFromPowerDown nm s).freeCount = s.freeCount := by
  unfold txFromPowerDown; cases nm <;> simp

/-! ## waitComplete -/

@[simp] theorem waitComplete_config (s : State) : (waitComplete s).config = s.config := by
  unfold waitComplete; split <;> simp [initDoneStep, lineWrite_stby, lineWrite_txen]
@[simp] theorem waitComplete_linePwr (s : State) : (waitComplete s).linePwr = s.linePwr := by
  unfold waitComplete; split <;> simp [initDoneStep, lineWrite_stby, lineWrite_txen]
@[simp] theorem waitComplete_txNm (s : State) : (waitComplete s).txNm = s.txNm := by
  unfold waitComplete; split <;> simp [initDoneStep, lineWrite_stby, lineWrite_txen]
@[simp] theorem waitComplete_pending (s : State) : (waitComplete s).pending = s.pending := by
  unfold waitComplete; split <;> simp [initDoneStep, lineWrite_stby, lineWrite_txen]
@[simp] theorem waitComplete_cbMask (s : State) : (waitComplete s).cbMask = s.cbMask := by
  unfold waitComplete; split <;> simp [initDoneStep, lineWrite_stby, lineWrite_txen]
@[simp] theorem waitComplete_pollLast (s : State) : (waitComplete s).pollLast = s.pollLast := by
  unfold waitComplete; split <;> simp [initDoneStep, lineWrite_stby, lineWrite_txen]
@[simp] theorem waitComplete_pollInam (s : State) : (waitComplete s).pollInam = s.pollInam := by
  unfold waitComplete; split <;> simp [initDoneStep, lineWrite_stby, lineWrite_txen]
@[simp] theorem waitComplete_drLvl (s : State) : (waitComplete s).drLvl = s.drLvl := by
  unfold waitComplete; split <;> simp [initDoneStep, lineWrite_stby, lineWrite_txen]
@[simp] theorem waitComplete_amLvl (s : State) : (waitComplete s).amLvl = s.amLvl := by
  unfold waitComplete; split <;> simp [initDoneStep, lineWrite_stby, lineWrite_txen]
@[simp] theorem waitComplete_cdLvl (s : State) : (waitComplete s).cdLvl = s.cdLvl := by
  unfold waitComplete; split <;> simp [initDoneStep, lineWrite_stby, lineWrite_txen]
@[simp] theorem waitComplete_irqDrPend (s : State) : (waitComplete s).irqDrPend = s.irqDrPend := by
  unfold waitComplete; split <;> simp [initDoneStep, lineWrite_stby, lineWrite_txen]
@[simp] theorem waitComplete_irqAmPend (s : State) : (waitComplete s).irqAmPend = s.irqAmPend := by
  unfold waitComplete; split <;> simp [initDoneStep, lineWrite_stby, lineWrite_txen]
@[simp] theorem waitComplete_refused (s : State) : (waitComplete s).refused = s.refused := by
  unfold waitComplete; split <;> simp [initDoneStep, lineWrite_stby, lineWrite_txen]
@[simp] theorem waitComplete_refuseReason (s : State) : (waitComplete s).refuseReason = s.refuseReason := by
  unfold waitComplete; split <;> simp [initDoneStep, lineWrite_stby, lineWrite_txen]
@[simp] theorem waitComplete_now (s : State) : (waitComplete s).now = s.now := by
  unfold waitComplete; split <;> simp [initDoneStep, lineWrite_stby, lineWrite_txen]
@[simp] theorem waitComplete_evtLog (s : State) : (waitComplete s).evtLog = s.evtLog := by
  unfold waitComplete; split <;> simp [initDoneStep, lineWrite_stby, lineWrite_txen]
@[simp] theorem waitComplete_host (s : State) : (waitComplete s).host = s.host := by
  unfold waitComplete; split <;> simp [initDoneStep, lineWrite_stby, lineWrite_txen]
@[simp] theorem waitComplete_schedule (s : State) : (waitComplete s).schedule = s.schedule := by
  unfold waitComplete; split <;> simp [initDoneStep, lineWrite_stby, lineWrite_txen]
@[simp] theorem waitComplete_freeCount (s : State) : (waitComplete s).freeCount = s.freeCount := by
  unfold waitComplete; split <;> simp [initDoneStep, lineWrite_stby, lineWrite_txen]

/-! ## pollClassify -/

@[simp] theorem pollClassify_config (w : Status) (s : State) : (pollClassify w s).config = s.config := by
  unfold pollClassify; (repeat' split) <;> rfl
@[simp] theorem pollClassify_linePwr (w : Status) (s : State) : (pollClassify w s).linePwr = s.linePwr := by
  unfold pollClassify; (repeat' split) <;> rfl
@[simp] theorem pollClassify_lineStby (w : Status) (s : State) : (pollClassify w s).lineStby = s.lineStby := by
  unfold pollClassify; (repeat' split) <;> rfl
@[simp] theorem pollClassify_lineTxen (w : Status) (s : State) : (pollClassify w s).lineTxen = s.lineTxen := by
  unfold pollClassify; (repeat' split) <;> rfl
@[simp] theorem pollClassify_seq (w : Status) (s : State) : (pollClassify w s).seq = s.seq := by
  unfold pollClassify; (repeat' split) <;> rfl
@[simp] theorem pollClassify_txNm (w : Status) (s : State) : (pollClassify w s).txNm = s.txNm := by
  unfold pollClassify; (repeat' split) <;> rfl
@[simp] theorem pollClassify_dlyTarget (w : Status) (s : State) : (pollClassify w s).dlyTarget = s.dlyTarget := by
  unfold pollClassify; (repeat' split) <;> rfl
@[simp] theorem pollClassify_dlyElapsed (w : Status) (s : State) : (pollClassify w s).dlyElapsed = s.dlyElapsed := by
  unfold pollClassify; (repeat' split) <;> rfl
@[simp] theorem pollClassify_initDone (w : Status) (s : State) : (pollClassify w s).initDone = s.initDone := by
  unfold pollClassify; (repeat' split) <;> rfl
@[simp] theorem pollClassify_pending (w : Status) (s : State) : (pollClassify w s).pending = s.pending := by
  unfold pollClassify; (repeat' split) <;> rfl
@[simp] theorem pollClassify_cbMask (w : Status) (s : State) : (pollClassify w s).cbMask = s.cbMask := by
  unfold pollClassify; (repeat' split) <;> rfl
@[simp] theorem pollClassify_pollLast (w : Status) (s : State) : (pollClassify w s).pollLast = s.pollLast := by
  unfold pollClassify; (repeat' split) <;> rfl
@[simp] theorem pollClassify_drLvl (w : Status) (s : State) : (pollClassify w s).drLvl = s.drLvl := by
  unfold pollClassify; (repeat' split) <;> rfl
@[simp] theorem pollClassify_amLvl (w : Status) (s : State) : (pollClassify w s).amLvl = s.amLvl := by
  unfold pollClassify; (repeat' split) <;> rfl
@[simp] theorem pollClassify_cdLvl (w : Status) (s : State) : (pollClassify w s).cdLvl = s.cdLvl := by
  unfold pollClassify; (repeat' split) <;> rfl
@[simp] theorem pollClassify_irqDrPend (w : Status) (s : State) : (pollClassify w s).irqDrPend = s.irqDrPend := by
  unfold pollClassify; (repeat' split) <;> rfl
@[simp] theorem pollClassify_irqAmPend (w : Status) (s : State) : (pollClassify w s).irqAmPend = s.irqAmPend := by
  unfold pollClassify; (repeat' split) <;> rfl
@[simp] theorem pollClassify_refused (w : Status) (s : State) : (pollClassify w s).refused = s.refused := by
  unfold pollClassify; (repeat' split) <;> rfl
@[simp] theorem pollClassify_refuseReason (w : Status) (s : State) : (pollClassify w s).refuseReason = s.refuseReason := by
  unfold pollClassify; (repeat' split) <;> rfl
@[simp] theorem pollClassify_now (w : Status) (s : State) : (pollClassify w s).now = s.now := by
  unfold pollClassify; (repeat' split) <;> rfl
@[simp] theorem pollClassify_lineTrace (w : Status) (s : State) : (pollClassify w s).lineTrace = s.lineTrace := by
  unfold pollClassify; (repeat' split) <;> rfl
@[simp] theorem pollClassify_respLog (w : Status) (s : State) : (pollClassify w s).respLog = s.respLog := by
  unfold pollClassify; (repeat' split) <;> rfl
@[simp] theorem pollClassify_host (w : Status) (s : State) : (pollClassify w s).host = s.host := by
  unfold pollClassify; (repeat' split) <;> rfl
@[simp] theorem pollClassify_schedule (w : Status) (s : State) : (pollClassify w s).schedule = s.schedule := by
  unfold pollClassify; (repeat' split) <;> rfl
@[simp] theorem pollClassify_freeCount (w : Status) (s : State) : (pollClassify w s).freeCount = s.freeCount := by
  unfold pollClassify; (repeat' split) <;> rfl

/-! ## pollStep -/

@[simp] theorem pollStep_config (s : State) : (pollStep s).config = s.config := by
  unfold pollStep; simp only [respond]; split <;> simp
@[simp] theorem pollStep_linePwr (s : State) : (pollStep s).linePwr = s.linePwr := by
  unfold pollStep; simp only [respond]; split <;> simp
@[simp] theorem pollStep_lineStby (s : State) : (pollStep s).lineStby = s.lineStby := by
  unfold pollStep; simp only [respond]; split <;> simp
@[simp] theorem pollStep_lineTxen (s : State) : (pollStep s).lineTxen = s.lineTxen := by
  unfold pollStep; simp only [respond]; split <;> simp
@[simp] theorem pollStep_txNm (s : State) : (pollStep s).txNm = s.txNm := by
  unfold pollStep; simp only [respond]; split <;> simp
@[simp] theorem pollStep_dlyTarget (s : State) : (pollStep s).dlyTarget = s.dlyTarget := by
  unfold pollStep; simp only [respond]; split <;> simp
@[simp] theorem pollStep_dlyElapsed (s : State) : (pollStep s).dlyElapsed = s.dlyElapsed := by
  unfold pollStep; simp only [respond]; split <;> simp
@[simp] theorem pollStep_initDone (s : State) : (pollStep s).initDone = s.initDone := by
  unfold pollStep; simp only [respond]; split <;> simp
@[simp] theorem pollStep_pending (s : State) : (pollStep s).pending = s.pending := by
  unfold pollStep; simp only [respond]; split <;> simp
@[simp] theorem pollStep_cbMask (s : State) : (pollStep s).cbMask = s.cbMask := by
  unfold pollStep; simp only [respond]; split <;> simp
@[simp] theorem pollStep_drLvl (s : State) : (pollStep s).drLvl = s.drLvl := by
  unfold pollStep; simp only [respond]; split <;> simp
@[simp] theorem pollStep_amLvl (s : State) : (pollStep s).amLvl = s.amLvl := by
  unfold pollStep; simp only [respond]; split <;> simp
@[simp] theorem pollStep_cdLvl (s : State) : (pollStep s).cdLvl = s.cdLvl := by
  unfold pollStep; simp only [respond]; split <;> simp
@[simp] theorem pollStep_irqDrPend (s : State) : (pollStep s).irqDrPend = s.irqDrPend := by
  unfold pollStep; simp only [respond]; split <;> simp
@[simp] theorem pollStep_irqAmPend (s : State) : (pollStep s).irqAmPend = s.irqAmPend := by
  unfold pollStep; simp only [respond]; split <;> simp
@[simp] theorem pollStep_refused (s : State) : (pollStep s).refused = s.refused := by
  unfold pollStep; simp only [respond]; split <;> simp
@[simp] theorem pollStep_refuseReason (s : State) : (pollStep s).refuseReason = s.refuseReason := by
  unfold pollStep; simp only [respond]; split <;> simp
@[simp] theorem pollStep_now (s : State) : (pollStep s).now = s.now := by
  unfold pollStep; simp only [respond]; split <;> simp
@[simp] theorem pollStep_lineTrace (s : State) : (pollStep s).lineTrace = s.lineTrace := by
  unfold pollStep; simp only [respond]; split <;> simp
@[simp] theorem pollStep_host (s : State) : (pollStep s).host = s.host := by
  unfold pollStep; simp only [respond]; split <;> simp
@[simp] theorem pollStep_schedule (s : State) : (pollStep s).schedule = s.schedule := by
  unfold pollStep; simp only [respond]; split <;> simp
@[simp] theorem pollStep_freeCount (s : State) : (pollStep s).freeCount = s.freeCount := by
  unfold pollStep; simp only [respond]; split <;> simp

/-! ## drClassify -/

@[simp] theorem drClassify_config (s : State) : (drClassify s).config = s.config := by
  unfold drClassify; split <;> rfl
@[simp] theorem drClassify_linePwr (s : State) : (drClassify s).linePwr = s.linePwr := by
  unfold drClassify; split <;> rfl
@[simp] theorem drClassify_lineStby (s : State) : (drClassify s).lineStby = s.lineStby := by
  unfold drClassify; split <;> rfl
@[simp] theorem drClassify_lineTxen (s : State) : (drClassify s).lineTxen = s.lineTxen := by
  unfold drClassify; split <;> rfl
@[simp] theorem drClassify_seq (s : State) : (drClassify s).seq = s.seq := by
  unfold drClassify; split <;> rfl
@[simp] theorem drClassify_txNm (s : State) : (drClassify s).txNm = s.txNm := by
  unfold drClassify; split <;> rfl
@[simp] theorem drClassify_dlyTarget (s : State) : (drClassify s).dlyTarget = s.dlyTarget := by
  unfold drClassify; split <;> rfl
@[simp] theorem drClassify_dlyElapsed (s : State) : (drClassify s).dlyElapsed = s.dlyElapsed := by
  unfold drClassify; split <;> rfl
@[simp] theorem drClassify_initDone (s : State) : (drClassify s).initDone = s.initDone := by
  unfold drClassify; split <;> rfl
@[simp] theorem drClassify_cbMask (s : State) : (drClassify s).cbMask = s.cbMask := by
  unfold drClassify; split <;> rfl
@[simp] theorem drClassify_pollLast (s : State) : (drClassify s).pollLast = s.pollLast := by
  unfold drClassify; split <;> rfl
@[simp] theorem drClassify_pollInam (s : State) : (drClassify s).pollInam = s.pollInam := by
  unfold drClassify; split <;> rfl
@[simp] theorem drClassify_drLvl (s : State) : (drClassify s).drLvl = s.drLvl := by
  unfold drClassify; split <;> rfl
@[simp] theorem drClassify_amLvl (s : State) : (drClassify s).amLvl = s.amLvl := by
  unfold drClassify; split <;> rfl
@[simp] theorem drClassify_cdLvl (s : State) : (drClassify s).cdLvl = s.cdLvl := by
  unfold drClassify; split <;> rfl
@[simp] theorem drClassify_irqDrPend (s : State) : (drClassify s).irqDrPend = s.irqDrPend := by
  unfold drClassify; split <;> rfl
@[simp] theorem drClassify_irqAmPend (s : State) : (drClassify s).irqAmPend = s.irqAmPend := by
  unfold drClassify; split <;> rfl
@[simp] theorem drClassify_refused (s : State) : (drClassify s).refused = s.refused := by
  unfold drClassify; split <;> rfl
@[simp] theorem drClassify_refuseReason (s : State) : (drClassify s).refuseReason = s.refuseReason := by
  unfold drClassify; split <;> rfl
@[simp] theorem drClassify_now (s : State) : (drClassify s).now = s.now := by
  unfold drClassify; split <;> rfl
@[simp] theorem drClassify_lineTrace (s : State) : (drClassify s).lineTrace = s.lineTrace := by
  unfold drClassify; split <;> rfl
@[simp] theorem drClassify_respLog (s : State) : (drClassify s).respLog = s.respLog := by
  unfold drClassify; split <;> rfl
@[simp] theorem drClassify_host (s : State) : (drClassify s).host = s.host := by
  unfold drClassify; split <;> rfl
@[simp] theorem drClassify_schedule (s : State) : (drClassify s).schedule = s.schedule := by
  unfold drClassify; split <;> rfl
@[simp] theorem drClassify_freeCount (s : State) : (drClassify s).freeCount = s.freeCount := by
  unfold drClassify; split <;> rfl

/-! ## amClassify -/

@[simp] theorem amClassify_config (s : State) : (amClassify s).config = s.config := by
  unfold amClassify; simp only; (repeat' split) <;> rfl
@[simp] theorem amClassify_linePwr (s : State) : (amClassify s).linePwr = s.linePwr := by
  unfold amClassify; simp only; (repeat' split) <;> rfl
@[simp] theorem amClassify_lineStby (s : State) : (amClassify s).lineStby = s.lineStby := by
  unfold amClassify; simp only; (repeat' split) <;> rfl
@[simp] theorem amClassify_lineTxen (s : State) : (amClassify s).lineTxen = s.lineTxen := by
  unfold amClassify; simp only; (repeat' split) <;> rfl
@[simp] theorem amClassify_seq (s : State) : (amClassify s).seq = s.seq := by
  unfold amClassify; simp only; (repeat' split) <;> rfl
@[simp] theorem amClassify_txNm (s : State) : (amClassify s).txNm = s.txNm := by
  unfold amClassify; simp only; (repeat' split) <;> rfl
@[simp] theorem amClassify_dlyTarget (s : State) : (amClassify s).dlyTarget = s.dlyTarget := by
  unfold amClassify; simp only; (repeat' split) <;> rfl
@[simp] theorem amClassify_dlyElapsed (s : State) : (amClassify s).dlyElapsed = s.dlyElapsed := by
  unfold amClassify; simp only; (repeat' split) <;> rfl
@[simp] theorem amClassify_initDone (s : State) : (amClassify s).initDone = s.initDone := by
  unfold amClassify; simp only; (repeat' split) <;> rfl
@[simp] theorem amClassify_cbMask (s : State) : (amClassify s).cbMask = s.cbMask := by
  unfold amClassify; simp only; (repeat' split) <;> rfl
@[simp] theorem amClassify_pollLast (s : State) : (amClassify s).pollLast = s.pollLast := by
  unfold amClassify; simp only; (repeat' split) <;> rfl
@[simp] theorem amClassify_pollInam (s : State) : (amClassify s).pollInam = s.pollInam := by
  unfold amClassify; simp only; (repeat' split) <;> rfl
@[simp] theorem amClassify_drLvl (s : State) : (amClassify s).drLvl = s.drLvl := by
  unfold amClassify; simp only; (repeat' split) <;> rfl
@[simp] theorem amClassify_amLvl (s : State) : (amClassify s).amLvl = s.amLvl := by
  unfold amClassify; simp only; (repeat' split) <;> rfl
@[simp] theorem amClassify_cdLvl (s : State) : (amClassify s).cdLvl = s.cdLvl := by
  unfold amClassify; simp only; (repeat' split) <;> rfl
@[simp] theorem amClassify_irqDrPend (s : State) : (amClassify s).irqDrPend = s.irqDrPend := by
  unfold amClassify; simp only; (repeat' split) <;> rfl
@[simp] theorem amClassify_irqAmPend (s : State) : (amClassify s).irqAmPend = s.irqAmPend := by
  unfold amClassify; simp only; (repeat' split) <;> rfl
@[simp] theorem amClassify_refused (s : State) : (amClassify s).refused = s.refused := by
  unfold amClassify; simp only; (repeat' split) <;> rfl
@[simp] theorem amClassify_refuseReason (s : State) : (amClassify s).refuseReason = s.refuseReason := by
  unfold amClassify; simp only; (repeat' split) <;> rfl
@[simp] theorem amClassify_now (s : State) : (amClassify s).now = s.now := by
  unfold amClassify; simp only; (repeat' split) <;> rfl
@[simp] theorem amClassify_lineTrace (s : State) : (amClassify s).lineTrace = s.lineTrace := by
  unfold amClassify; simp only; (repeat' split) <;> rfl
@[simp] theorem amClassify_respLog (s : State) : (amClassify s).respLog = s.respLog := by
  unfold amClassify; simp only; (repeat' split) <;> rfl
@[simp] theorem amClassify_host (s : State) : (amClassify s).host = s.host := by
  unfold amClassify; simp only; (repeat' split) <;> rfl
@[simp] theorem amClassify_schedule (s : State) : (amClassify s).schedule = s.schedule := by
  unfold amClassify; simp only; (repeat' split) <;> rfl
@[simp] theorem amClassify_freeCount (s : State) : (amClassify s).freeCount = s.freeCount := by
  unfold amClassify; simp only; (repeat' split) <;> rfl

/-! ## envStatus -/

@[simp] theorem envStatus_config (dr am : Bool) (s : State) : (envStatus dr am s).config = s.config := rfl
@[simp] theorem envStatus_linePwr (dr am : Bool) (s : State) : (envStatus dr am s).linePwr = s.linePwr := rfl
@[simp] theorem envStatus_lineStby (dr am : Bool) (s : State) : (envStatus dr am s).lineStby = s.lineStby := rfl
@[simp] theorem envStatus_lineTxen (dr am : Bool) (s : State) : (envStatus dr am s).lineTxen = s.lineTxen := rfl
@[simp] theorem envStatus_seq (dr am : Bool) (s : State) : (envStatus dr am s).seq = s.seq := rfl
@[simp] theorem envStatus_txNm (dr am : Bool) (s : State) : (envStatus dr am s).txNm = s.txNm := rfl
@[simp] theorem envStatus_dlyTarget (dr am : Bool) (s : State) : (envStatus dr am s).dlyTarget = s.dlyTarget := rfl
@[simp] theorem envStatus_dlyElapsed (dr am : Bool) (s : State) : (envStatus dr am s).dlyElapsed = s.dlyElapsed := rfl
@[simp] theorem envStatus_initDone (dr am : Bool) (s : State) : (envStatus dr am s).initDone = s.initDone := rfl
@[simp] theorem envStatus_pending (dr am : Bool) (s : State) : (envStatus dr am s).pending = s.pending := rfl
@[simp] theorem envStatus_cbMask (dr am : Bool) (s : State) : (envStatus dr am s).cbMask = s.cbMask := rfl
@[simp] theorem envStatus_pollLast (dr am : Bool) (s : State) : (envStatus dr am s).pollLast = s.pollLast := rfl
@[simp] theorem envStatus_pollInam (dr am : Bool) (s : State) : (envStatus dr am s).pollInam = s.pollInam := rfl
@[simp] theorem envStatus_cdLvl (dr am : Bool) (s : State) : (envStatus dr am s).cdLvl = s.cdLvl := rfl
@[simp] theorem envStatus_refused (dr am : Bool) (s : State) : (envStatus dr am s).refused = s.refused := rfl
@[simp] theorem envStatus_refuseReason (dr am : Bool) (s : State) : (envStatus dr am s).refuseReason = s.refuseReason := rfl
@[simp] theorem envStatus_now (dr am : Bool) (s : State) : (envStatus dr am s).now = s.now := rfl
@[simp] theorem envStatus_lineTrace (dr am : Bool) (s : State) : (envStatus dr am s).lineTrace = s.lineTrace := rfl
@[simp] theorem envStatus_respLog (dr am : Bool) (s : State) : (envStatus dr am s).respLog = s.respLog := rfl
@[simp] theorem envStatus_evtLog (dr am : Bool) (s : State) : (envStatus dr am s).evtLog = s.evtLog := rfl
@[simp] theorem envStatus_host (dr am : Bool) (s : State) : (envStatus dr am s).host = s.host := rfl
@[simp] theorem envStatus_schedule (dr am : Bool) (s : State) : (envStatus dr am s).schedule = s.schedule := rfl
@[simp] theorem envStatus_freeCount (dr am : Bool) (s : State) : (envStatus dr am s).freeCount = s.freeCount := rfl

/-! ## envLine -/

@[simp] theorem envLine_config (l : Line) (v : Bool) (s : State) : (envLine l v s).config = s.config := by
  unfold envLine; split <;> simp
@[simp] theorem envLine_seq (l : Line) (v : Bool) (s : State) : (envLine l v s).seq = s.seq := by
  unfold envLine; split <;> simp
@[simp] theorem envLine_txNm (l : Line) (v : Bool) (s : State) : (envLine l v s).txNm = s.txNm := by
  unfold envLine; split <;> simp
@[simp] theorem envLine_dlyTarget (l : Line) (v : Bool) (s : State) : (envLine l v s).dlyTarget = s.dlyTarget := by
  unfold envLine; split <;> simp
@[simp] theorem envLine_dlyElapsed (l : Line) (v : Bool) (s : State) : (envLine l v s).dlyElapsed = s.dlyElapsed := by
  unfold envLine; split <;> simp
@[simp] theorem envLine_initDone (l : Line) (v : Bool) (s : State) : (envLine l v s).initDone = s.initDone := by
  unfold envLine; split <;> simp
@[simp] theorem envLine_pending (l : Line) (v : Bool) (s : State) : (envLine l v s).pending = s.pending := by
  unfold envLine; split <;> simp
@[simp] theorem envLine_cbMask (l : Line) (v : Bool) (s : State) : (envLine l v s).cbMask = s.cbMask := by
  unfold envLine; split <;> simp
@[simp] theorem envLine_pollLast (l : Line) (v : Bool) (s : State) : (envLine l v s).pollLast = s.pollLast := by
  unfold envLine; split <;> simp
@[simp] theorem envLine_pollInam (l : Line) (v : Bool) (s : State) : (envLine l v s).pollInam = s.pollInam := by
  unfold envLine; split <;> simp
@[simp] theorem envLine_drLvl (l : Line) (v : Bool) (s : State) : (envLine l v s).drLvl = s.drLvl := by
  unfold envLine; split <;> simp
@[simp] theorem envLine_amLvl (l : Line) (v : Bool) (s : State) : (envLine l v s).amLvl = s.amLvl := by
  unfold envLine; split <;> simp
@[simp] theorem envLine_cdLvl (l : Line) (v : Bool) (s : State) : (envLine l v s).cdLvl = s.cdLvl := by
  unfold envLine; split <;> simp
@[simp] theorem envLine_irqDrPend (l : Line) (v : Bool) (s : State) : (envLine l v s).irqDrPend = s.irqDrPend := by
  unfold envLine; split <;> simp
@[simp] theorem envLine_irqAmPend (l : Line) (v : Bool) (s : State) : (envLine l v s).irqAmPend = s.irqAmPend := by
  unfold envLine; split <;> simp
@[simp] theorem envLine_refused (l : Line) (v : Bool) (s : State) : (envLine l v s).refused = s.refused := by
  unfold envLine; split <;> simp
@[simp] theorem envLine_refuseReason (l : Line) (v : Bool) (s : State) : (envLine l v s).refuseReason = s.refuseReason := by
  unfold envLine; split <;> simp
@[simp] theorem envLine_now (l : Line) (v : Bool) (s : State) : (envLine l v s).now = s.now := by
  unfold envLine; split <;> simp
@[simp] theorem envLine_lineTrace (l : Line) (v : Bool) (s : State) : (envLine l v s).lineTrace = s.lineTrace := by
  unfold envLine; split <;> simp
@[simp] theorem envLine_respLog (l : Line) (v : Bool) (s : State) : (envLine l v s).respLog = s.respLog := by
  unfold envLine; split <;> simp
@[simp] theorem envLine_evtLog (l : Line) (v : Bool) (s : State) : (envLine l v s).evtLog = s.evtLog := by
  unfold envLine; split <;> simp
@[simp] theorem envLine_host (l : Line) (v : Bool) (s : State) : (envLine l v s).host = s.host := by
  unfold envLine; split <;> simp
@[simp] theorem envLine_schedule (l : Line) (v : Bool) (s : State) : (envLine l v s).schedule = s.schedule := by
  unfold envLine; split <;> simp
@[simp] theorem envLine_freeCount (l : Line) (v : Bool) (s : State) : (envLine l v s).freeCount = s.freeCount := by
  unfold envLine; split <;> simp

end Sys2Proof.Machine
end

