-- ==== Sys2Proof/Laws/Inversion.lean ====
section
/-! SUPPORT. Inversion, said once: what a command can do, what a turn can do, and what a step is made of. Later proofs cite
these instead of unfolding the meanings and the turns. -/

namespace Sys2Proof.Machine

/-! ## The step -/

/-- A step that answers a next state was taken from a state that is not refused, and is the next turn. -/
theorem step_next {s t : State} (h : step s = .next t) :
    s.refused = false ∧ takeTurn (nextTurn s).1 (nextTurn s).2 = .next t := by
  unfold step at h
  split at h
  · cases h
  · exact ⟨Bool.eq_false_of_not_eq_true ‹_›, h⟩

/-- Choosing the next turn touches the model's own fields only. -/
theorem nextTurn_snd (s : State) :
    (nextTurn s).2 = { s with schedule := (nextTurn s).2.schedule, freeCount := (nextTurn s).2.freeCount } := by
  unfold nextTurn
  split <;> simp

/-- With a turn listed, the step takes it. -/
theorem step_schedule (s : State) (x : Turn) (ts : List Turn) (h : s.refused = false) :
    step { s with schedule := x :: ts } = takeTurn x { s with schedule := ts } := by
  simp [step, nextTurn, h]

/-! ## What a command can do -/

/-- The effects a command's meaning can have. -/
theorem exec_command_cases {i : Instr} {s t : State} (hi : i.isCommand = true) (h : exec i s = .next t) :
    t = respond .pwrdn 0 (lineWrite .pwr false s) ∨
    t = respond .stby 0 (lineWrite .pwr true (lineWrite .stby true s)) ∨
    t = respond .rx 0 (lineWrite .pwr true (lineWrite .stby false (lineWrite .txen false s))) ∨
    t = respond .mode ((mode s).code.setWidth 8) s ∨
    (∃ m, t = respond .setcb 0 { s with cbMask := m }) ∨
    (s.config.disc = .polled ∧ t = pollStep s) ∨
    (s.config.disc = .interruptDriven ∧ t = raiseRefuse .discipline s) ∨
    (mode s = .powerDown ∧ ∃ nm, t = txFromPowerDown nm s) ∨
    (mode s ≠ .powerDown ∧ t = respond .tx 0 s) ∨
    (mode s ≠ .powerDown ∧ ∃ nm, t = txStart nm (mode s) s) := by
  cases i with
  | pwrdn => exact .inl (by cases h; rfl)
  | stby => exact .inr (.inl (by cases h; rfl))
  | rx => exact .inr (.inr (.inl (by cases h; rfl)))
  | mode => exact .inr (.inr (.inr (.inl (by cases h; rfl))))
  | setcb m => exact .inr (.inr (.inr (.inr (.inl ⟨m, by cases h; rfl⟩))))
  | poll =>
    simp only [exec, execPoll] at h
    split at h <;> cases h <;> simp_all
  | tx nm ca =>
    simp only [exec, execTx] at h
    split at h
    · cases h
      exact .inr (.inr (.inr (.inr (.inr (.inr (.inr (.inl ⟨‹_›, nm, rfl⟩)))))))
    · split at h
      · cases h
        exact .inr (.inr (.inr (.inr (.inr (.inr (.inr (.inr (.inl ⟨‹_›, rfl⟩))))))))
      · cases h
        exact .inr (.inr (.inr (.inr (.inr (.inr (.inr (.inr (.inr ⟨‹_›, nm, rfl⟩))))))))
  | irqDr => cases hi
  | irqAm => cases hi

/-! ## What a turn can do -/

/-- To prove a relation between the states before and after a turn, prove it of a hold and of each effect a turn can have.
In the host's cases the word, and perhaps a free choice, has been taken from the model's own lists first. -/
theorem takeTurn_elim {x : Turn} {s t : State} (h : takeTurn x s = .next t) (P : State → State → Prop)
    (hold : ∀ s, P s s)
    (command : ∀ s ws n i, i.isCommand = true → portOpen s = true → ∀ t,
      exec i { s with host := ws, freeCount := n } = .next t → x = .host → P s t)
    (refuse : ∀ s ws n r, portOpen s = true → r ≠ .none → x = .host →
      P s (raiseRefuse r { s with host := ws, freeCount := n }))
    (waitDone : ∀ s, waitDoneEnabled s = true → x = .waitDone → P s (waitComplete s))
    (irqDr : ∀ s, irqDrEnabled s = true → x = .irqDr → P s (drClassify { s with irqDrPend := false }))
    (irqAm : ∀ s, irqAmEnabled s = true → x = .irqAm → P s (amClassify { s with irqAmPend := false }))
    (status : ∀ s d a, x = .envStatus d a → P s (envStatus d a s))
    (carrier : ∀ s c, x = .envCd c → P s (envCd c s))
    (tick : ∀ s, x = .envTick → P s (envTick s))
    (line : ∀ s l v, x = .envLine l v → P s (envLine l v s))
    (reset : ∀ s c dr am cd, x = .reset c dr am cd → P s (resetTurn c dr am cd s)) : P s t := by
  cases x with
  | host =>
    obtain ⟨-, rfl⟩ | ⟨hp, ws, n, ⟨i, hi, he⟩ | ⟨r, hr, rfl⟩⟩ := hostTurn_cases h
    · exact hold _
    · exact command _ ws n i hi hp _ he rfl
    · exact refuse _ ws n r hp hr rfl
  | waitDone =>
    simp only [takeTurn, waitDoneTurn] at h
    cases h
    split
    · exact waitDone _ ‹_› rfl
    · exact hold _
  | irqDr =>
    simp only [takeTurn, irqDrTurn] at h
    split at h <;> cases h
    · exact irqDr _ ‹_› rfl
    · exact hold _
  | irqAm =>
    simp only [takeTurn, irqAmTurn] at h
    split at h <;> cases h
    · exact irqAm _ ‹_› rfl
    · exact hold _
  | envStatus d a => cases h; exact status _ _ _ rfl
  | envCd c => cases h; exact carrier _ _ rfl
  | envTick => cases h; exact tick _ rfl
  | envLine l v => cases h; exact line _ _ _ rfl
  | reset c d a cd => cases h; exact reset _ _ _ _ _ rfl

/-! ## Lines and waits through the shared operations -/

/-- A write leaves the register of an unused line alone. -/
theorem lineReg_lineWrite_unused (k l : Line) (v : Bool) (s : State) (h : s.config.hasLine l = false) :
    lineReg l (lineWrite k v s) = lineReg l s := by
  rw [lineReg_lineWrite]
  split
  · rename_i hk
    obtain ⟨rfl, hk⟩ := hk
    rw [h] at hk
    cases hk
  · rfl

@[simp] theorem lineReg_respond (l : Line) (op : CommandOp) (v : Word) (s : State) :
    lineReg l (respond op v s) = lineReg l s := by
  cases l <;> rfl

@[simp] theorem lineReg_startWait (l : Line) (n : Nat) (q : Seq) (s : State) :
    lineReg l (startWait n q s) = lineReg l s := by
  cases l <;> rfl

/-- What TxStart leaves in SEQ: idle after a response, or one of TX's two last waits with a length of that wait. -/
theorem txStart_wait (nm : NextMode) (m : Mode) (s : State) :
    (txStart nm m s).seq = .idle ∧ nm = .transmit ∨
    (txStart nm m s).seq = .txSbWait ∧ nm = .standby ∧
      (txStart nm m s).dlyTarget = BitVec.ofNat 16 s.config.tSettle ∧ (txStart nm m s).dlyElapsed = 0 ∨
    (txStart nm m s).seq = .txRxWait ∧ nm = .receive ∧ (txStart nm m s).dlyElapsed = 0 ∧
      (txStart nm m s).dlyTarget = BitVec.ofNat 16 (if m = .standby then s.config.tTxpulse else s.config.tSettle) := by
  unfold txStart
  cases nm <;> by_cases hm : m = .standby <;> simp [hm]

/-- One tick on the saturating counter, as numbers. -/
theorem tickUp_toNat (t : Ticks) : (tickUp t).toNat = min (t.toNat + 1) 65535 := by
  have := t.isLt
  simp [tickUp]

end Sys2Proof.Machine
end

