-- ==== Sys2Proof/Laws/PerInstr.lean ====
section
/-! SUPPORT. Statements about every instruction as syntax, one lemma per constructor. `TableRow`: an instruction's encoding
is an instance of its row of spec/opcode_table.json (spec/30_encoding.md R71 to R75), and its row's format says whether it
is a command. -/

namespace Sys2Proof.Laws.TableRow

/-- The instruction's encoding fits its row of the opcode table, and the row is a CMD row exactly for a command. -/
def Statement (i : Instr) : Prop := i.row.fits (encode i) = true ∧ i.row.command = i.isCommand

theorem pwrdn : Statement .pwrdn := by unfold Statement; decide
theorem stby : Statement .stby := by unfold Statement; decide
theorem rx : Statement .rx := by unfold Statement; decide
theorem tx (nm : NextMode) (ca : Bool) : Statement (.tx nm ca) := by
  unfold Statement
  cases nm <;> cases ca <;> decide
theorem mode : Statement .mode := by unfold Statement; decide
theorem setcb (mask : BitVec 4) : Statement (.setcb mask) := by
  unfold Statement
  revert mask
  decide
theorem poll : Statement .poll := by unfold Statement; decide
theorem irqDr : Statement .irqDr := by unfold Statement; decide
theorem irqAm : Statement .irqAm := by unfold Statement; decide

end Sys2Proof.Laws.TableRow
end

