-- ==== Sys2Proof/Laws/Runs.lean ====
section
/-! SUPPORT. Runs of turns: cutting a run in two, a run of ticks, and an invariant of turns along a run. -/

namespace Sys2Proof.Machine

/-- A run whose first turn is `x`, taken apart. -/
theorem runTurns_cons_next {x : Turn} {ts : List Turn} {s u : State} (h : runTurns (x :: ts) s = .next u) :
    s.refused = false ∧ ∃ t, takeTurn x s = .next t ∧ runTurns ts t = .next u := by
  simp only [runTurns] at h
  split at h
  · cases h
  · obtain ⟨t, ht⟩ := takeTurn_next x s
    rw [ht] at h
    exact ⟨Bool.eq_false_of_not_eq_true ‹_›, t, ht, h⟩

/-- A run put together from its first turn. -/
theorem runTurns_cons {x : Turn} {s t : State} (ts : List Turn) (hr : s.refused = false) (h : takeTurn x s = .next t) :
    runTurns (x :: ts) s = runTurns ts t := by
  simp [runTurns, hr, h]

/-- A run of two lists of turns is the second's run after the first's. -/
theorem runTurns_append {a : List Turn} {s t : State} (b : List Turn) (h : runTurns a s = .next t) :
    runTurns (a ++ b) s = runTurns b t := by
  induction a generalizing s with
  | nil => cases h; rfl
  | cons x a ih =>
    obtain ⟨hr, u, hu, h⟩ := runTurns_cons_next h
    rw [List.cons_append, runTurns_cons _ hr hu]
    exact ih h

/-- A run of ticks moves `NOW` and the saturating counter, and nothing else. -/
theorem runTurns_ticks (n : Nat) (s : State) (h : s.refused = false) :
    ∃ e, runTurns (List.replicate n .envTick) s = .next { s with now := s.now + n, dlyElapsed := e } ∧
      e.toNat = if n = 0 then s.dlyElapsed.toNat else min (s.dlyElapsed.toNat + n) 65535 := by
  induction n generalizing s with
  | zero => exact ⟨_, rfl, rfl⟩
  | succ n ih =>
    obtain ⟨e, h1, h2⟩ := ih (envTick s) h
    refine ⟨e, ?_, ?_⟩
    · rw [List.replicate_succ, runTurns_cons _ h (t := envTick s) rfl, h1]
      simp only [envTick]
      congr 2
      omega
    · rw [h2]
      simp only [envTick, tickUp_toNat]
      have := s.dlyElapsed.isLt
      split <;> simp <;> omega

/-- What every turn of a kind keeps, a run of such turns keeps. -/
theorem runTurns_keeps (P : State → Prop) (Q : Turn → Prop)
    (keep : ∀ x s t, Q x → P s → takeTurn x s = .next t → P t) {ts : List Turn} {s t : State}
    (hq : ∀ x ∈ ts, Q x) (hp : P s) (h : runTurns ts s = .next t) : P t := by
  induction ts generalizing s with
  | nil => cases h; exact hp
  | cons x ts ih =>
    obtain ⟨-, u, hu, h⟩ := runTurns_cons_next h
    exact ih (fun y hy => hq y (by simp [hy])) (keep _ _ _ (hq x (by simp)) hp hu) h

end Sys2Proof.Machine
end

