-- ==== Sys2Proof/Tests/Slice0.lean ====
section
/-! SUPPORT. Small tests, and a witness for every statement that has hypotheses. Expected values come from the spec: the
section or rule is named at each test (the vectors L2.x and programs P1 to P7 are those of spec/95_test_vectors.md). -/

namespace Sys2Proof.Tests

open Sys2Proof.Machine

/-! ## Helpers -/

/-- The next state of an outcome, if it has one. -/
def after (o : Host.Outcome State Fault Refusal) : Option State :=
  match o with
  | .next t => some t
  | .fault _ => none
  | .refused _ => none

/-- The state after the reset settle wait (lines 1 and 2 of every program of 95_test_vectors.md), time aside. -/
def readyIn (c : Config) : State :=
  { State.resetWith c false false false with initDone := true, seq := .idle, lineTrace := [] }

/-- Ready, in the default configuration: polled, all lines present, mode STANDBY. -/
def ready : State := readyIn Config.default

/-- The default configuration, interrupt-driven. -/
def irqConfig : Config := { Config.default with disc := .interruptDriven }

/-- Ready, interrupt-driven. -/
def readyIrq : State := readyIn irqConfig

/-- Ready, in mode RECEIVE. -/
def receiving : State := { ready with lineStby := false }

/-- Ready, in mode POWER_DOWN. -/
def down : State := { ready with linePwr := false }

/-- In a wait of `n` ticks, `k` of them passed. -/
def waiting (q : Seq) (nm : NextMode) (n k : Nat) : State :=
  { ready with seq := q, txNm := nm, dlyTarget := BitVec.ofNat 16 n, dlyElapsed := BitVec.ofNat 16 k }

/-! ## Well-formedness: each check refuses an ill-formed term (00_scope.md R8, 30_encoding.md R75; L2.13) -/

theorem test_wf_default : Config.default.wf = true := by decide
theorem test_wf_no_standby_line : Config.stbyPresent { Config.default with hasStby := false } = false := by decide
theorem test_wf_interrupts_without_data_ready : Config.discHasDr { irqConfig with hasDr := false } = false := by decide
theorem test_wf_settle_too_long : Config.ticksFit { Config.default with tSettle := 65536 } = false := by decide
theorem test_wf_powerup_too_long : Config.ticksFit { Config.default with tPwrup := 65536 } = false := by decide
theorem test_wf_pulse_too_long : Config.ticksFit { Config.default with tTxpulse := 65536 } = false := by decide
theorem test_wf_init_too_long : Config.ticksFit { Config.default with tInit := 65536 } = false := by decide
theorem test_wf_longest_ticks : Config.ticksFit { Config.default with tInit := 65535 } = true := by decide
theorem test_wf_handler_is_no_command : Instr.isCommand .irqDr = false ∧ Instr.isCommand .irqAm = false := by decide

/-! ## Decoding: words written out from 30_encoding.md R71 to R75 -/

theorem test_decode_pwrdn : decodeCommand 0b00010000#8 = .instr .pwrdn := by decide
theorem test_decode_stby : decodeCommand 0b00100000#8 = .instr .stby := by decide
theorem test_decode_rx : decodeCommand 0b00110000#8 = .instr .rx := by decide
theorem test_decode_tx_transmit : decodeCommand 0b01000000#8 = .instr (.tx .transmit false) := by decide
theorem test_decode_tx_standby_ca : decodeCommand 0b01000101#8 = .instr (.tx .standby true) := by decide
theorem test_decode_tx_receive_ca : decodeCommand 0b01000110#8 = .instr (.tx .receive true) := by decide
theorem test_decode_mode : decodeCommand 0b01010000#8 = .instr .mode := by decide
theorem test_decode_setcb : decodeCommand 0b01101001#8 = .instr (.setcb 0b1001#4) := by decide
theorem test_decode_poll : decodeCommand 0b01110000#8 = .instr .poll := by decide
theorem test_decode_irq_dr : decodeLatches 0b01#2 = [.irqDr] := by decide
theorem test_decode_irq_am : decodeLatches 0b10#2 = [.irqAm] := by decide
theorem test_decode_both_latches : decodeLatches 0b11#2 = [.irqDr, .irqAm] := by decide
theorem test_decode_no_latch : decodeLatches 0b00#2 = [] := by decide
theorem test_decode_zero_opcode : decodeCommand 0b00000000#8 = .refuse .illegalOpcode := by decide
theorem test_decode_high_opcode : decodeCommand 0b10000000#8 = .refuse .illegalOpcode := by decide
theorem test_decode_operand_of_pwrdn : decodeCommand 0b00010001#8 = .refuse .reservedField := by decide
/-- R80: the `ARG[3]` check comes before `nm`, so 0x4B is RESERVED_FIELD. -/
theorem test_decode_tx_checks_reserved_bit_first : decodeCommand 0b01001011#8 = .refuse .reservedField := by decide
theorem test_decode_tx_reserved_next_mode : decodeCommand 0b01000011#8 = .refuse .reservedNextMode := by decide
/-- L2.2's counts: 144 words ILLEGAL_OPCODE. -/
theorem test_decode_counts_illegal :
    ((List.range 256).filter fun n => decodeCommand (BitVec.ofNat 8 n) == .refuse .illegalOpcode).length = 144 := by
  decide +kernel
/-- L2.2's counts: 83 words RESERVED_FIELD. -/
theorem test_decode_counts_reserved_field :
    ((List.range 256).filter fun n => decodeCommand (BitVec.ofNat 8 n) == .refuse .reservedField).length = 83 := by
  decide +kernel

/-- The opcode table's rows, as `decodeTableWord` reads them. -/
theorem test_table_words :
    decodeTableWord 8 0x10 = some .pwrdn ∧ decodeTableWord 8 0x20 = some .stby ∧ decodeTableWord 8 0x30 = some .rx ∧
    decodeTableWord 8 0x40 = some (.tx .transmit false) ∧ decodeTableWord 8 0x50 = some .mode ∧
    decodeTableWord 8 0x60 = some (.setcb 0) ∧ decodeTableWord 8 0x70 = some .poll ∧
    decodeTableWord 8 1 = some .irqDr ∧ decodeTableWord 8 2 = some .irqAm := by decide

/-- A placed word runs in the very next step (log entry 9), a command and a handler step. -/
theorem test_fetch_pwrdn :
    (after (step (State.reset.withFetchWord 8 0x10))).map (fun t => (mode t, t.host, t.schedule)) =
      some (.powerDown, [], []) := by decide
theorem test_fetch_irq_am :
    (after (step (State.reset.withFetchWord 8 2))).map (fun t => (events t, t.irqAmPend)) =
      some ([.rxInvalid], false) := by decide

/-! ## One step of each instruction -/

/-- R103's example: from STANDBY, PWRDN gives trace (PWR,0), response 0x00 and mode POWER_DOWN. -/
theorem test_pwrdn :
    (after (exec .pwrdn ready)).map (fun t => (t.lineTrace, t.respLog, mode t)) =
      some ([⟨0, .pwr, false⟩], [⟨0, .pwrdn, 0⟩], .powerDown) := by decide
/-- R103's corner case 1: with no power line, nothing is written and the mode does not change. -/
theorem test_pwrdn_unused :
    (after (exec .pwrdn (readyIn { Config.default with hasPwr := false }))).map (fun t => (t.lineTrace, mode t)) =
      some ([], .standby) := by decide
/-- R104's example: from RECEIVE, STBY gives trace (STBY,1) (PWR,1) and mode STANDBY. -/
theorem test_stby :
    (after (exec .stby receiving)).map (fun t => (t.lineTrace, mode t)) =
      some ([⟨0, .stby, true⟩, ⟨0, .pwr, true⟩], .standby) := by decide
/-- R105's example: from STANDBY, RX gives trace (TXEN,0) (STBY,0) (PWR,1) and mode RECEIVE. -/
theorem test_rx :
    (after (exec .rx ready)).map (fun t => (t.lineTrace, mode t)) =
      some ([⟨0, .txen, false⟩, ⟨0, .stby, false⟩, ⟨0, .pwr, true⟩], .receive) := by decide
/-- R106's example: after reset, MODE responds 0x01. -/
theorem test_mode : (after (exec .mode ready)).map (fun t => t.respLog) = some [⟨0, .mode, 1⟩] := by decide
/-- R110's example: from RECEIVE with the channel busy, 0x44 responds 0x00 and writes no line. -/
theorem test_tx_abort :
    (after (exec (.tx .transmit true) { receiving with cdLvl := true })).map (fun t => (t.lineTrace, t.respLog)) =
      some ([], [⟨0, .tx, 0⟩]) := by decide
/-- P1 line 4: from POWER_DOWN, TX STANDBY powers up and waits 3000 ticks. -/
theorem test_tx_power_up :
    (after (exec (.tx .standby false) down)).map (fun t => (t.lineTrace, t.seq, t.txNm.code, t.dlyTarget)) =
      some ([⟨0, .stby, true⟩, ⟨0, .pwr, true⟩], .txPwrupWait, 0b01#2, 3000#16) := by decide
/-- R111's example: the power-up wait's end writes (TXEN,1) (STBY,0) and starts a 14-tick wait. -/
theorem test_power_up_done :
    let t := waitDoneTurn (waiting .txPwrupWait .standby 3000 3000)
    (t.lineTrace, t.seq, t.dlyTarget) = ([⟨0, .txen, true⟩, ⟨0, .stby, false⟩], .txSbWait, 14#16) := by decide
/-- R113's example: after 700 ticks, TXEN is deasserted and the TX responds 0x01; after 699 it is held. -/
theorem test_rx_switch_done :
    (waitDoneTurn (waiting .txRxWait .transmit 700 700)).respLog = [⟨0, .tx, 1⟩] ∧
    waitDoneTurn (waiting .txRxWait .transmit 700 699) = waiting .txRxWait .transmit 700 699 := by decide
/-- R141's example: 0x69 sets CB_MASK = 0b1001. -/
theorem test_setcb : (after (acceptWord 0x69#8 ready)).map (fun t => t.cbMask) = some 0b1001#4 := by decide
/-- R145's example: POLL_LAST = 01 and POLL_INAM = 1, status 11. -/
theorem test_poll :
    (after (exec .poll { ready with pollLast := 0b01#2, pollInam := true, drLvl := true, amLvl := true })).map
      (fun t => (events t, t.pollInam, t.pollLast)) = some ([.rxComplete], false, 0b11#2) := by decide
/-- P6 (a): POLL when interrupt-driven is refused with reason 4 and logs no response. -/
theorem test_poll_refused :
    (after (exec .poll readyIrq)).map (fun t => (t.refused, t.refuseReason.code, t.respLog)) = some (true, 4#3, []) := by
  decide
/-- P3 line 12: AM asserted, RX_COMPLETE not delivered under the mask 0x6A. -/
theorem test_irq_dr_receive :
    (after (exec .irqDr { readyIrq with irqDrPend := true, amLvl := true, cbMask := 0b1010#4 })).map
      (fun t => (t.pending, t.irqDrPend, t.evtLog)) = some (true, false, [⟨0, .handler, .rxComplete, false⟩]) := by decide
/-- R146's example: AM deasserted, TX_COMPLETE, PENDING unchanged. -/
theorem test_irq_dr_transmit :
    (after (exec .irqDr { readyIrq with irqDrPend := true, pending := true })).map (fun t => (events t, t.pending)) =
      some ([.txComplete], true) := by decide
/-- R147's example: AM deasserted and PENDING 0, RX_INVALID. -/
theorem test_irq_am_invalid :
    (after (exec .irqAm { readyIrq with irqAmPend := true })).map (fun t => (events t, t.irqAmPend)) =
      some ([.rxInvalid], false) := by decide
/-- P3 line 15: AM deasserted and PENDING 1, no event, PENDING cleared. -/
theorem test_irq_am_after_payload :
    (after (exec .irqAm { readyIrq with irqAmPend := true, pending := true })).map (fun t => (events t, t.pending)) =
      some ([], false) := by decide

/-! ## Turns that are no table row, reset, and the assembler -/

/-- R27 and R37: the counter saturates at 65535. -/
theorem test_tick_saturates : tickUp 65535#16 = 65535#16 ∧ tickUp 65534#16 = 65535#16 := by decide
/-- L2.10's remark: with no address-match line, status 11 sets the data-ready latch only. -/
theorem test_env_status_without_am :
    let t := envStatus true true (readyIn { irqConfig with hasAm := false })
    (t.amLvl, t.irqDrPend, t.irqAmPend) = (false, true, false) := by decide
/-- L2.13: the reset trace, with all lines and with no power line. -/
theorem test_reset_trace :
    State.reset.lineTrace = [⟨0, .txen, false⟩, ⟨0, .pwr, false⟩, ⟨0, .stby, true⟩, ⟨0, .pwr, true⟩] ∧
    (State.resetWith { Config.default with hasPwr := false } false false false).lineTrace =
      [⟨0, .txen, false⟩, ⟨0, .stby, true⟩] := by decide
/-- L2.13: no standby line is refused with code 5 and an empty trace. -/
theorem test_reset_refused :
    (resetStep { Config.default with hasStby := false } true true true).refuseReason.code = 5#3 ∧
    (resetStep { Config.default with hasStby := false } true true true).lineTrace = [] := by decide
/-- R83's forms: a hexadecimal mask, a list of ticks, a refused name. -/
theorem test_parse :
    parseLine "SETCB 0x6" = some (.command (.setcb 0b0110#4)) ∧ parseLine "ENV_TICK 3000" = some (.envTick 3000) ∧
    parseLine "TX RECEIVE, 1" = some (.command (.tx .receive true)) ∧ parseLine "RX_NOW" = none := by decide

/-! ## Witnesses: each shows states and operands that meet the hypotheses of the statement named, clause by clause -/

theorem witness_NoOperandCommandsHaveOneWord :
    ∀ w ∈ [0x11#8, 0x2F#8, 0x38#8, 0x51#8, 0x7F#8],
      (w.toNat / 16 = 1 ∨ w.toNat / 16 = 2 ∨ w.toNat / 16 = 3 ∨ w.toNat / 16 = 5 ∨ w.toNat / 16 = 7) ∧ w.toNat % 16 ≠ 0 := by
  decide

theorem witness_TxWordsCarryNextModeAndCollisionBit :
    ((0x48#8)[3] = true ∧ (0x48#8).toNat / 16 = 4) ∧ ((0x47#8)[3] = false ∧ (0x47#8).toNat % 4 = 3) ∧
    ((0x44#8)[3] = false ∧ (0x44#8).toNat % 4 = 0) ∧ ((0x41#8)[3] = false ∧ (0x41#8).toNat % 4 = 1) ∧
    ((0x46#8)[3] = false ∧ (0x46#8).toNat % 4 = 2 ∧ (0x46#8).toNat / 16 = 4) := by decide

theorem witness_DecodeOfEncodedCommand : Instr.isCommand (.tx .receive true) = true ∧ Instr.isCommand (.setcb 15) = true := by
  decide

theorem witness_EncodeOfDecodedWord :
    decodeCommand 0x10#8 = .instr .pwrdn ∧ decodeCommand 0x46#8 = .instr (.tx .receive true) ∧
    decodeCommand 0x70#8 = .instr .poll := by decide

theorem witness_HandlersAreMatchedOnTheLatchVector :
    let s := { readyIrq with irqDrPend := true, irqAmPend := true }
    s.refused = false ∧ s.irqDrPend = true ∧ s.irqAmPend = true := by decide

theorem witness_StepAcceptsOrHoldsTheHostsWord :
    (ready.refused = false ∧ ready.initDone = true ∧ ready.seq = .idle ∧
      decodeCommand 0x6F#8 = .instr (.setcb 15) ∧ decodeCommand 0x8F#8 = .refuse .illegalOpcode) ∧
    (State.reset.refused = false ∧ State.reset.initDone = false) ∧
    ((waiting .txSbWait .standby 14 0).refused = false ∧ (waiting .txSbWait .standby 14 0).seq ≠ .idle) := by decide

theorem witness_DecodeTableAndRefusedWords :
    ((0xB#4)[3] = true ∧ (0x7#4)[3] = false ∧ (0x7#4).extractLsb' 0 2 = 0b11#2) ∧
    ((0x6#4)[3] = false ∧ (0x6#4).extractLsb' 0 2 = NextMode.receive.code) ∧
    (8 ≤ (0x8#4).toNat ∧ 8 ≤ (0xF#4).toNat) ∧
    portOpen ready = true ∧ decodeCommand 0x47#8 = .refuse .reservedNextMode := by decide

theorem witness_HandlerStepsServeTheirLatches :
    let s := { readyIrq with irqDrPend := true, irqAmPend := true }
    (s.refused = false ∧ s.irqDrPend = true ∧ s.irqAmPend = true) ∧
    (readyIrq.irqDrPend = false ∧ readyIrq.irqAmPend = false) ∧
    ∃ t, takeTurn (.envStatus false true) s = .next t ∧ isReset (.envStatus false true) = false ∧
      Turn.envStatus false true ≠ .irqDr ∧ Turn.envStatus false true ≠ .irqAm :=
  ⟨by decide, by decide, _, rfl, rfl, by decide, by decide⟩

theorem witness_RefusalMarksAndStopsTheRun :
    (ready.refused = false ∧ (State.resetRefused { Config.default with hasStby := false }).refused = true) ∧
    (∃ t, step { ready with host := [0x00#8], schedule := [.host] } = .next t ∧ t.refused = true) ∧
    (∃ t, step { ready with host := [0x10#8], schedule := [.host] } = .next t ∧ t.refused = false) ∧
    isReset (nextTurn { ready with host := [0x00#8], schedule := [.host] }).1 = false :=
  ⟨⟨rfl, rfl⟩, ⟨_, rfl, rfl⟩, ⟨_, rfl, rfl⟩, rfl⟩

theorem witness_EnvironmentActions :
    ready.refused = false ∧ (readyIn { Config.default with hasTxen := false }).config.hasLine .txen = false ∧
    ready.config.hasPwr = true ∧ ready.config.hasStby = true ∧ ready.config.hasTxen = true := by decide

theorem witness_LineAndStatusAccess :
    ready.config.hasPwr = true ∧ ready.config.hasStby = true ∧ ready.config.hasTxen = true ∧ ready.config.hasCd = true ∧
    let bare := readyIn { Config.default with hasPwr := false, hasTxen := false, hasCd := false }
    bare.config.hasLine .pwr = false ∧ bare.config.hasLine .txen = false ∧ bare.config.hasCd = false := by decide

theorem witness_ModeIsAFunctionOfTheLines :
    (down.config.hasPwr = true ∧ down.linePwr = false) ∧
    (ready.linePwr = true ∧ lineRead .stby ready = true) ∧
    (lineRead .stby receiving = false ∧ receiving.config.hasTxen = true ∧ receiving.lineTxen = false) ∧
    (lineRead .stby { receiving with lineTxen := true } = false ∧ { receiving with lineTxen := true }.lineTxen = true) ∧
    let bare := { readyIn { Config.default with hasPwr := false, hasTxen := false } with lineStby := false }
    bare.config.hasPwr = false ∧ lineRead .stby bare = false ∧ bare.config.hasTxen = false := by decide

theorem witness_PwrdnDeassertsPower :
    ready.config.hasPwr = true ∧ (readyIn { Config.default with hasPwr := false }).config.hasPwr = false := by decide

theorem witness_ModeRespondsItsCode :
    (waiting .txPwrupWait .standby 3000 3000).refused = false ∧ (waiting .txPwrupWait .standby 3000 3000).seq ≠ .idle := by
  decide

theorem witness_ModeAfterModeCommands :
    let ts : List Turn := [.envTick, .envStatus true true, .waitDone]
    ready.config.wf = true ∧ (∀ x ∈ ts, x ≠ .host ∧ isEnvLine x = false ∧ isReset x = false) ∧
    ∃ t u, exec .rx ready = .next t ∧ runTurns ts t = .next u :=
  ⟨by decide, by decide, _, _, rfl, rfl⟩

theorem witness_TxAcceptStep :
    (mode down = .powerDown ∧ NextMode.standby ≠ .transmit) ∧
    (mode ready ≠ .powerDown ∧ mode ready = .standby ∧ ready.cdLvl = false) ∧
    (mode receiving ≠ .powerDown ∧ mode receiving ≠ .standby) ∧
    (readyIn { Config.default with hasCd := false }).config.hasCd = false ∧
    (mode { receiving with cdLvl := true } ≠ .powerDown ∧ ready.config.hasCd = true) := by decide

theorem witness_TxAbortsOnABusyChannel :
    let s := { receiving with cdLvl := true }
    mode s ≠ .powerDown ∧ s.config.hasCd = true ∧ s.cdLvl = true ∧
      ∃ t, exec (.tx .standby true) s = .next t :=
  ⟨by decide, rfl, rfl, _, rfl⟩

theorem witness_WaitDoneCompletesEachWait :
    ready.seq = .idle ∧
    (let s := waiting .txRxWait .transmit 700 699; s.refused = false ∧ s.dlyElapsed.toNat < s.dlyTarget.toNat) ∧
    (let s := waiting .initWait .transmit 3000 3000; s.dlyTarget.toNat ≤ s.dlyElapsed.toNat ∧ s.seq = .initWait) ∧
    (let s := waiting .txRxWait .transmit 700 700; s.dlyTarget.toNat ≤ s.dlyElapsed.toNat ∧ s.seq = .txRxWait) ∧
    (let s := waiting .txSbWait .transmit 14 14; s.dlyTarget.toNat ≤ s.dlyElapsed.toNat ∧ s.seq = .txSbWait) ∧
    (let s := waiting .txPwrupWait .standby 0 0;
      s.dlyTarget.toNat ≤ s.dlyElapsed.toNat ∧ s.seq = .txPwrupWait ∧ s.txNm = .standby) ∧
    (let s := waiting .txPwrupWait .receive 65535 65535;
      s.dlyTarget.toNat ≤ s.dlyElapsed.toNat ∧ s.seq = .txPwrupWait ∧ s.txNm = .receive) := by decide

/-- A state in each of TX's waits, with the lines the wait has. -/
theorem txLines_waiting :
    TxLines ready ∧ TxLines (waiting .txPwrupWait .standby 3000 3000) ∧ TxLines (waiting .txPwrupWait .receive 3000 3000) ∧
    TxLines { waiting .txSbWait .standby 14 14 with lineStby := false, lineTxen := true } ∧
    TxLines { waiting .txRxWait .receive 700 700 with lineStby := false, lineTxen := true } := by
  refine ⟨⟨?_, ?_, ?_, ?_⟩, ⟨?_, ?_, ?_, ?_⟩, ⟨?_, ?_, ?_, ?_⟩, ⟨?_, ?_, ?_, ?_⟩, ⟨?_, ?_, ?_, ?_⟩⟩ <;> decide

theorem witness_TurnsKeepTxLines :
    TxLines (waiting .txPwrupWait .standby 3000 3000) ∧ isReset .waitDone = false ∧ isEnvLine .waitDone = false ∧
    ∃ t, takeTurn .waitDone (waiting .txPwrupWait .standby 3000 3000) = .next t ∧ t.seq = .txSbWait :=
  ⟨txLines_waiting.2.1, rfl, rfl, _, rfl, rfl⟩

theorem witness_SuccessfulTxEndsInItsTargetMode :
    (TxLines ready ∧ ∃ t, exec (.tx .transmit false) ready = .next t ∧ t.respLog = ready.respLog ++ [⟨0, .tx, 0x01#8⟩]) ∧
    (NextMode.receive ≠ .transmit ∧ cdRead ready = false) ∧
    (TxLines (waiting .txPwrupWait .standby 3000 3000) ∧
      waitDoneEnabled (waiting .txPwrupWait .standby 3000 3000) = true) ∧
    (TxLines (waiting .txPwrupWait .receive 3000 3000) ∧
      waitDoneEnabled (waiting .txPwrupWait .receive 3000 3000) = true) ∧
    (TxLines { waiting .txSbWait .standby 14 14 with lineStby := false, lineTxen := true } ∧
      waitDoneEnabled (waiting .txSbWait .standby 14 14) = true) ∧
    (TxLines { waiting .txRxWait .receive 700 700 with lineStby := false, lineTxen := true } ∧
      waitDoneEnabled (waiting .txRxWait .receive 700 700) = true) :=
  ⟨⟨txLines_waiting.1, _, rfl, rfl⟩, by decide, ⟨txLines_waiting.2.1, by decide⟩, ⟨txLines_waiting.2.2.1, by decide⟩,
    ⟨txLines_waiting.2.2.2.1, by decide⟩, ⟨txLines_waiting.2.2.2.2, by decide⟩⟩

theorem witness_EveryAcceptedCommandRespondsOnce :
    (Instr.isCommand (.tx .standby false) = true ∧ ready.seq = .idle ∧ ready.refused = false ∧
      ∃ t, exec (.tx .standby false) ready = .next t ∧ t.seq = .txSbWait) ∧
    (Turn.waitDone ≠ .host ∧ isReset .waitDone = false ∧
      ∃ t, takeTurn .waitDone (waiting .txSbWait .standby 14 14) = .next t ∧ t.respLog = [⟨0, .tx, 1⟩]) :=
  ⟨⟨rfl, rfl, rfl, _, rfl, rfl⟩, by decide, rfl, _, rfl, rfl⟩

theorem witness_WaitsNeverEndEarly :
    let s := waiting .txSbWait .standby 14 11
    let ts : List Turn := [.envTick, .host, .waitDone, .envTick]
    s.refused = false ∧ s.seq ≠ .idle ∧ (∀ x ∈ ts, isReset x = false) ∧
      s.dlyElapsed.toNat + tickCount ts < s.dlyTarget.toNat := by decide

/-- The default configuration with short waits. -/
def short : Config := { Config.default with tPwrup := 2, tTxpulse := 1, tSettle := 1, tInit := 2 }

theorem witness_TxTakesAtLeastItsMinimumTicks :
    let s := { readyIn short with linePwr := false }
    s.config.wf = true ∧ portOpen s = true ∧ mode s = .powerDown ∧
    ∃ t₀ t, exec (.tx .standby true) s = .next t₀ ∧
      runTurns [.envTick, .envTick, .waitDone, .envTick, .waitDone] t₀ = .next t ∧
      s.respLog.length < t.respLog.length ∧ minTxTicks s.config (mode s) .standby = 3 :=
  ⟨by decide, by decide, by decide, _, _, rfl, rfl, by decide, by decide⟩

theorem witness_TxRespondsOnceAfterItsWaits :
    portOpen ready = true ∧ ready.config.tPwrup ≤ 3000 ∧ max ready.config.tTxpulse ready.config.tSettle ≤ 700 ∧
      ready.config.wf = true := by decide

/-! ### A fair run -/

/-- The turns of a fair run: a tick, a WAIT_DONE and the two handler steps, over and over. -/
def fairTurn (n : Nat) : Turn :=
  if n % 4 = 0 then .envTick else if n % 4 = 1 then .waitDone else if n % 4 = 2 then .irqDr else .irqAm

/-- Its states: it starts in a TX's wait with both latches set. -/
def fairState : Nat → State
  | 0 => { readyIrq with
      seq := .txSbWait, dlyTarget := 14#16, lineStby := false, lineTxen := true, irqDrPend := true, irqAmPend := true }
  | n + 1 => (after (takeTurn (fairTurn n) (fairState n))).getD (fairState n)

theorem fairState_taken (n : Nat) : takeTurn (fairTurn n) (fairState n) = .next (fairState (n + 1)) := by
  obtain ⟨t, ht⟩ := takeTurn_next (fairTurn n) (fairState n)
  simp [fairState, ht, after]

/-- None of these turns refuses. -/
theorem fairTurn_live {n : Nat} {s t : State} (hs : s.refused = false) (h : takeTurn (fairTurn n) s = .next t) :
    t.refused = false := by
  revert h
  unfold fairTurn
  (repeat' split) <;> intro h
  · cases h; exact hs
  · cases h; simp only [waitDoneTurn]; split <;> simp [hs]
  · simp only [takeTurn, irqDrTurn] at h; split at h <;> cases h <;> simp [hs]
  · simp only [takeTurn, irqAmTurn] at h; split at h <;> cases h <;> simp [hs]

theorem fairState_live (n : Nat) : (fairState n).refused = false := by
  induction n with
  | zero => rfl
  | succ n ih => exact fairTurn_live ih (fairState_taken n)

theorem fair_isRun : IsRun fairTurn fairState where
  live := fairState_live
  noReset n := by unfold fairTurn; (repeat' split) <;> rfl
  taken := fairState_taken

theorem fair_weaklyFair : WeaklyFair fairTurn fairState where
  ticks n := ⟨4 * n, by omega, by simp [fairTurn]⟩
  waitDone n _ := ⟨4 * n + 1, by omega, by simp [fairTurn, Nat.add_mod]⟩
  irqDr n _ := ⟨4 * n + 2, by omega, by simp [fairTurn, Nat.add_mod]⟩
  irqAm n _ := ⟨4 * n + 3, by omega, by simp [fairTurn, Nat.add_mod]⟩

theorem fairState_blockInv : BlockInv (fairState 0) := by
  constructor
  case unusedLines => intro l; cases l <;> decide
  case target => exact fun _ => ⟨14, by decide, by decide⟩
  all_goals decide

theorem witness_FairRunsReopenTheCommandPort :
    IsRun fairTurn fairState ∧ WeaklyFair fairTurn fairState ∧ BlockInv (fairState 0) ∧ portOpen (fairState 0) = false :=
  ⟨fair_isRun, fair_weaklyFair, fairState_blockInv, by decide⟩

theorem witness_FairRunsServeEveryPendingInterrupt :
    IsRun fairTurn fairState ∧ WeaklyFair fairTurn fairState ∧ (fairState 0).irqDrPend = true ∧
      (fairState 0).irqAmPend = true :=
  ⟨fair_isRun, fair_weaklyFair, rfl, rfl⟩

/-! ### The dispatcher -/

theorem witness_PollClassifiesTheStatusWord :
    ready.config.disc = .polled ∧ readyIrq.config.disc = .interruptDriven ∧ readyIrq.refused = false := by decide

theorem witness_UnchangedStatusRaisesNoEvent :
    ready.config.disc = .polled ∧ statusRead ready = ready.pollLast ∧
      ∃ t, exec .poll { ready with amLvl := true } = .next t ∧ t.evtLog.length = 1 :=
  ⟨by decide, by decide, _, rfl, rfl⟩

theorem witness_AtMostOneEventPerStep :
    (let s := { ready with amLvl := true, host := [0x70#8], schedule := [.host] };
      isReset (nextTurn s).1 = false ∧ (nextTurn s).1 = .host ∧ ∃ t, step s = .next t ∧ t.evtLog ≠ s.evtLog) ∧
    let s := { readyIrq with amLvl := true, irqDrPend := true, schedule := [.irqDr] }
    isReset (nextTurn s).1 = false ∧ ∃ t, step s = .next t ∧ t.evtLog ≠ s.evtLog :=
  ⟨⟨rfl, rfl, _, rfl, by decide⟩, rfl, _, rfl, by decide⟩

theorem blockInv_polled : BlockInv { ready with drLvl := true, amLvl := true, host := [0x70#8] } := by
  constructor
  case unusedLines => intro l; cases l <;> decide
  all_goals decide

theorem blockInv_irq : BlockInv { readyIrq with amLvl := true, irqDrPend := true } := by
  constructor
  case unusedLines => intro l; cases l <;> decide
  all_goals decide

theorem witness_RxCompleteNeedsAddressMatch :
    (let s := { ready with drLvl := true, amLvl := true, host := [0x70#8] };
      BlockInv s ∧ s.config.disc = .polled ∧ isReset .host = false ∧ ∃ t, takeTurn .host s = .next t ∧
        t.evtLog = s.evtLog ++ [⟨0, .foreground, .rxComplete, false⟩]) ∧
    (let s := { readyIrq with amLvl := true, irqDrPend := true };
      BlockInv s ∧ s.config.disc = .interruptDriven ∧ isReset .irqDr = false ∧ ∃ t, takeTurn .irqDr s = .next t ∧
        t.evtLog = s.evtLog ++ [⟨0, .handler, .rxComplete, false⟩]) ∧
    (let c := { Config.default with tInit := 0 };
      c.wf = true ∧ c.disc = .polled ∧ c.hasDr = true ∧ c.hasAm = true ∧ c.tInit = 0) ∧
    (readyIrq.amLvl = false ∧ (∀ y ∈ [Turn.envStatus true true] ++ [.irqDr], isReset y = false) ∧
      ∃ t u, runTurns [.envStatus true true] readyIrq = .next t ∧ takeTurn .irqDr t = .next u ∧
        u.evtLog = t.evtLog ++ [⟨0, .handler, .rxComplete, false⟩]) :=
  ⟨⟨blockInv_polled, rfl, rfl, _, rfl, by decide⟩, ⟨blockInv_irq, rfl, rfl, _, rfl, by decide⟩, by decide, rfl, by decide, _, _,
    rfl, rfl, by decide⟩

/-- Two corrupted receptions, polled, from reset with no settle wait. -/
theorem witness_PolledInvalidsAreSeparatedByAddressMatches :
    let c := { Config.default with tInit := 0 }
    let ts : List Turn := [.waitDone, .envStatus false true, .host, .envStatus false false, .host,
      .envStatus false true, .host, .envStatus false false, .host]
    c.disc = .polled ∧ (∀ x ∈ ts, isReset x = false) ∧
    ∃ t, runTurns ts { State.resetWith c false false false with host := List.replicate 4 0x70#8 } = .next t ∧
      events t = [.addrMatch] ++ [.rxInvalid] ++ [.addrMatch] ++ [.rxInvalid] ++ [] :=
  ⟨rfl, by decide, _, rfl, by decide⟩

theorem witness_MergedEdgesRaiseASecondInvalid :
    readyIrq.refused = false ∧ readyIrq.initDone = true ∧ readyIrq.config.disc = .interruptDriven ∧
    readyIrq.config.hasAm = true ∧ readyIrq.amLvl = false ∧ readyIrq.drLvl = false ∧ readyIrq.irqAmPend = false ∧
    readyIrq.pending = false := by decide

theorem witness_SimultaneousEdgesDependOnTheOrder :
    readyIrq.refused = false ∧ readyIrq.initDone = true ∧ readyIrq.config.disc = .interruptDriven ∧
    readyIrq.config.hasDr = true ∧ readyIrq.config.hasAm = true ∧ readyIrq.amLvl = false ∧ readyIrq.drLvl = false := by
  decide

/-- A path through all six nominal transitions. -/
theorem witness_DisciplinesAgreeOnNominalPaths :
    nominalPath (false, false)
      [(false, true), (true, true), (false, false), (true, false), (false, false), (false, true), (false, false)] = true ∧
    portOpen ready = true ∧ ready.config.disc = .polled ∧ ready.config.hasDr = true ∧ ready.config.hasAm = true ∧
    ready.drLvl = false ∧ ready.amLvl = false ∧ ready.pollLast = 0 ∧ ready.pollInam = false ∧
    readyIrq.refused = false ∧ readyIrq.initDone = true ∧ readyIrq.config.disc = .interruptDriven ∧
    readyIrq.config.hasDr = true ∧ readyIrq.config.hasAm = true ∧ readyIrq.drLvl = false ∧ readyIrq.amLvl = false ∧
    readyIrq.pending = false ∧ readyIrq.irqDrPend = false ∧ readyIrq.irqAmPend = false := by decide

theorem witness_EquivalenceNeedsThePolledAddressMatchLine :
    let p := readyIn { Config.default with hasAm := false }
    portOpen p = true ∧ p.config.disc = .polled ∧ p.config.hasDr = true ∧ p.config.hasAm = false ∧
    p.drLvl = false ∧ p.amLvl = false ∧ p.pollLast = 0 ∧ p.pollInam = false ∧
    readyIrq.refused = false ∧ readyIrq.initDone = true ∧ readyIrq.config.disc = .interruptDriven ∧
    readyIrq.config.hasDr = true ∧ readyIrq.config.hasAm = true ∧ readyIrq.drLvl = false ∧ readyIrq.amLvl = false ∧
    readyIrq.pending = false ∧ readyIrq.irqDrPend = false ∧ readyIrq.irqAmPend = false := by decide

theorem witness_HandlersCommuteWithTheSequencer :
    let s := { readyIrq with irqDrPend := true }
    (Turn.irqDr = .irqDr ∨ Turn.irqDr = .irqAm) ∧ s.refused = false ∧
      (Instr.pwrdn = .pwrdn ∨ ∃ nm ca, Instr.tx .receive true = .tx nm ca) :=
  ⟨.inl rfl, rfl, .inl rfl⟩

theorem witness_TimeAndLogsAreNeverRead :
    let hide (s : State) : State := { s with now := 0, lineTrace := [], respLog := [], evtLog := [] }
    let s₁ := { ready with schedule := [.waitDone] }
    let s₂ := { ready with now := 9, schedule := [.waitDone] }
    hide s₁ = hide s₂ ∧ s₁ ≠ s₂ ∧ (∃ t, step s₁ = .next t) ∧
      ∃ r, step (State.resetRefused Config.default) = .refused r :=
  ⟨rfl, by decide, ⟨_, rfl⟩, _, rfl⟩

/-! ### Reset and invariants -/

theorem witness_ResetValues : Config.default.wf = true ∧ irqConfig.wf = true := by decide

theorem witness_ResetRefusesIllFormedConfigurations :
    Config.wf { Config.default with tSettle := 65536 } = false ∧ Config.wf { irqConfig with hasDr := false } = false := by
  decide

/-- An interrupt-driven block with two ticks of settle wait: before it ends, rising levels set no latch and the host's word
waits. -/
theorem witness_InitializationOpensThePort :
    let c := { Config.default with disc := .interruptDriven, tInit := 2 }
    let ts : List Turn := [.envTick, .envStatus true true, .host, .waitDone]
    c.wf = true ∧ c.tInit ≤ 2 ∧ (∀ x ∈ ts, isReset x = false) ∧ tickCount ts < c.tInit ∧
      ∃ u, runTurns ts { resetStep c false false false with host := [0x30#8] } = .next u ∧ u.initDone = false ∧
        u.drLvl = true ∧ u.amLvl = true :=
  ⟨by decide, by decide, by decide, by decide, _, rfl, rfl, rfl, rfl⟩

theorem witness_OnlyResetChangesTheConfiguration :
    ready.refused = false ∧ isReset (nextTurn { ready with schedule := [.envTick] }).1 = false ∧
      ∃ t, step { ready with schedule := [.envTick] } = .next t :=
  ⟨rfl, rfl, _, rfl⟩

theorem witness_StepKeepsInvariant :
    BlockInv (fairState 0) ∧ ∃ t, step { fairState 0 with schedule := [.irqAm] } = .next t :=
  ⟨fairState_blockInv, _, rfl⟩

theorem witness_LogsOnlyGrow :
    let s := { ready with host := [0x30#8], schedule := [.host] }
    isReset (nextTurn s).1 = false ∧ ∃ t, step s = .next t ∧ t.lineTrace.length = 3 :=
  ⟨rfl, _, rfl, rfl⟩

theorem witness_StepKeepsLogTimes :
    let s := { ready with
      now := 5, lineTrace := [⟨0, .pwr, true⟩, ⟨5, .pwr, false⟩], host := [0x30#8], schedule := [.host] }
    LogTimes s ∧ ∃ t, step s = .next t :=
  ⟨⟨by decide, by decide, by decide⟩, _, rfl⟩

theorem witness_LineChangesAreTraced :
    (isReset .host = false ∧ ∃ t, takeTurn .host { ready with host := [0x10#8] } = .next t ∧
      lineReg .pwr t ≠ lineReg .pwr ready) ∧
    ∃ t, takeTurn (.envLine .pwr false) ready = .next t ∧ lineReg .pwr t ≠ lineReg .pwr ready :=
  ⟨⟨rfl, _, rfl, by decide⟩, _, rfl, by decide⟩

theorem witness_UnusedLinesAreNeverWritten :
    let s := readyIn { Config.default with hasTxen := false }
    isReset (.envLine .txen true) = false ∧ s.config.hasLine .txen = false ∧
      ∃ t, takeTurn (.envLine .txen true) s = .next t :=
  ⟨rfl, rfl, _, rfl⟩

theorem witness_InstancesAreIndependent :
    let s := { readyIrq with schedule := [.envTick] }
    [ready, s][1]? = some s ∧ ∃ t, step s = .next t :=
  ⟨rfl, _, rfl⟩

theorem witness_ProgramLinesAreOneWordAndOneTurn : Instr.isCommand .poll = true := by decide

end Sys2Proof.Tests
end

section
/-! SUPPORT. The statements of spec/00_scope.md. Lemmas: each condition of R8 as a proposition, the reset of an ill-formed
configuration, and the step of a refused state. -/

namespace Sys2Proof

/-! ## The conditions of R8 as propositions -/

theorem Config.discHasDr_iff (c : Config) :
    c.discHasDr = true ↔ (c.disc = .interruptDriven → c.hasDr = true) := by
  simp [Config.discHasDr, imp_iff_not_or]

theorem Config.ticksFit_iff (c : Config) :
    c.ticksFit = true ↔ c.tPwrup ≤ 65535 ∧ c.tTxpulse ≤ 65535 ∧ c.tSettle ≤ 65535 ∧ c.tInit ≤ 65535 := by
  simp [Config.ticksFit, and_assoc]

theorem Config.wf_iff (c : Config) :
    c.wf = true ↔ c.hasStby = true ∧ (c.disc = .interruptDriven → c.hasDr = true) ∧
      c.tPwrup ≤ 65535 ∧ c.tTxpulse ≤ 65535 ∧ c.tSettle ≤ 65535 ∧ c.tInit ≤ 65535 := by
  rw [← c.discHasDr_iff, ← c.ticksFit_iff]
  simp [Config.wf, Config.stbyPresent, and_assoc]

namespace Machine

/-! ## Refusal at reset -/

/-- The whole state after the reset step of an ill-formed configuration, whatever the input levels are. -/
theorem resetStep_of_not_wf {c : Config} (h : c.wf = false) (dr am cd : Bool) :
    resetStep c dr am cd = State.resetRefused c := by
  simp [resetStep, h]

@[simp] theorem State.resetRefused_refused (c : Config) : (State.resetRefused c).refused = true := rfl
@[simp] theorem State.resetRefused_refuseReason (c : Config) : (State.resetRefused c).refuseReason = .config := rfl
@[simp] theorem State.resetRefused_lineTrace (c : Config) : (State.resetRefused c).lineTrace = [] := rfl

/-- No step is enabled in a refused state (10_state.md R38); the counterpart of `step_next`. -/
theorem step_of_refused {s : State} (h : s.refused = true) : step s = .refused (.runRefused s.refuseReason) := by
  simp [step, h]

/-- Settles O50: `Config.wf_iff` is R8's three conditions; an ill-formed configuration resets to `State.resetRefused`,
whose refusal mark blocks every step, whatever words and turns are listed. -/
theorem resetRefusesIllFormedConfigurations : Obligations.ResetRefusesIllFormedConfigurations := by
  unfold Obligations.ResetRefusesIllFormedConfigurations
  refine fun c => ⟨c.wf_iff, fun hwf dr am cd ws ts => ?_⟩
  rw [resetStep_of_not_wf hwf]
  have hstep : step { State.resetRefused c with host := ws, schedule := ts } = .refused (.runRefused .config) :=
    step_of_refused (State.resetRefused_refused c)
  exact ⟨State.resetRefused_refused c, State.resetRefused_refuseReason c, State.resetRefused_lineTrace c, hstep⟩

end Machine

end Sys2Proof
end

section
/-! SUPPORT. The statements of spec/10_state.md. Lemmas: the host's turn at an open and at a closed port (R36), each
environment action as one record update (R37), and the reset step's result (R39). -/

namespace Sys2Proof.Machine

/-! ## The command port -/

theorem portOpen_iff (s : State) : portOpen s = true ↔ s.refused = false ∧ s.initDone = true ∧ s.seq = .idle := by
  simp [portOpen, and_assoc]

/-- The first refusal of a run keeps its reason; nothing else changes (60_exceptions.md R170). -/
theorem raiseRefuse_of_not_refused {s : State} (h : s.refused = false) (r : RefuseReason) :
    raiseRefuse r s = { s with refused := true, refuseReason := r } := by
  simp [raiseRefuse, h]

theorem acceptWord_of_instr {w : Word} {i : Instr} (h : decodeCommand w = .instr i) (s : State) :
    acceptWord w s = exec i s := by
  simp [acceptWord, h]

theorem acceptWord_of_refuse {w : Word} {r : RefuseReason} (h : decodeCommand w = .refuse r) (s : State) :
    acceptWord w s = .next (raiseRefuse r s) := by
  simp [acceptWord, h]

theorem hostTurn_of_open {s : State} {w : Word} {ws : List Word} (h : portOpen s = true) (hw : s.host = w :: ws) :
    hostTurn s = acceptWord w { s with host := ws } := by
  simp [hostTurn, h, hw]

theorem hostTurn_of_closed {s : State} (h : portOpen s = false) : hostTurn s = .next s := by
  simp [hostTurn, h]

/-- The step of a host's turn whose port is open, with a word waiting, accepts that word. -/
theorem step_host_of_open {s : State} (h : portOpen s = true) (w : Word) (ws : List Word) (ts : List Turn) :
    step { s with host := w :: ws, schedule := .host :: ts } = acceptWord w { s with host := ws, schedule := ts } := by
  obtain ⟨hr, -, -⟩ := (portOpen_iff s).1 h
  rw [step_schedule { s with host := w :: ws } .host ts hr]
  exact hostTurn_of_open (s := { s with host := w :: ws, schedule := ts }) h rfl

/-- Settles O9: at an open port the step is `acceptWord`, which splits on the decoded word; at a closed one it is a
hold. -/
theorem stepAcceptsOrHoldsTheHostsWord : Obligations.StepAcceptsOrHoldsTheHostsWord := by
  unfold Obligations.StepAcceptsOrHoldsTheHostsWord
  refine fun s w ws ts hr => ⟨fun hi hq i hd => ?_, fun hi hq r hd => ?_, fun hc => ?_⟩
  · rw [step_host_of_open ((portOpen_iff s).2 ⟨hr, hi, hq⟩), acceptWord_of_instr hd]
  · rw [step_host_of_open ((portOpen_iff s).2 ⟨hr, hi, hq⟩), acceptWord_of_refuse hd]
    exact congrArg _ (raiseRefuse_of_not_refused (s := { s with host := ws, schedule := ts }) hr r)
  · have hclosed : portOpen s = false := by
      rw [← Bool.not_eq_true, portOpen_iff]
      rintro ⟨-, hi, hq⟩
      exact hc.elim (by simp [hi]) (absurd hq)
    rw [step_schedule { s with host := w :: ws } .host ts hr]
    exact hostTurn_of_closed (s := { s with host := w :: ws, schedule := ts }) hclosed

/-! ## The environment's actions -/

theorem latching_iff (s : State) : latching s = true ↔ s.config.disc = .interruptDriven ∧ s.initDone = true := by
  simp [latching]

/-- A latch `p` merged with a new edge `b`, read as the rule's condition `P` on that edge. -/
theorem or_eq_ite_of_iff {p b : Bool} {P : Prop} [Decidable P] (h : b = true ↔ P) :
    (p || b) = if P then true else p := by
  rw [← if_congr h rfl rfl]
  cases b <;> simp

/-- R175 for data-ready: the latch after `ENV_STATUS` is set by a rise of a present line while interrupts are attached,
and otherwise as before. -/
theorem envStatus_irqDrPend (dr am : Bool) (s : State) :
    (envStatus dr am s).irqDrPend =
      if s.config.disc = .interruptDriven ∧ s.initDone = true ∧ s.config.hasDr = true ∧ s.drLvl = false ∧ dr = true
      then true else s.irqDrPend := by
  have edge : (latching s && s.config.hasDr && !s.drLvl && (s.config.hasDr && dr)) = true ↔
      s.config.disc = .interruptDriven ∧ s.initDone = true ∧ s.config.hasDr = true ∧ s.drLvl = false ∧ dr = true := by
    simp only [Bool.and_eq_true, Bool.not_eq_true', latching_iff]
    tauto
  exact or_eq_ite_of_iff edge

/-- R175 for address-match: the latch after `ENV_STATUS` is set by any change of a present line while interrupts are
attached, and otherwise as before. -/
theorem envStatus_irqAmPend (dr am : Bool) (s : State) :
    (envStatus dr am s).irqAmPend =
      if s.config.disc = .interruptDriven ∧ s.initDone = true ∧ s.config.hasAm = true ∧ s.amLvl ≠ am
      then true else s.irqAmPend := by
  have edge : (latching s && s.config.hasAm && s.amLvl != (s.config.hasAm && am)) = true ↔
      s.config.disc = .interruptDriven ∧ s.initDone = true ∧ s.config.hasAm = true ∧ s.amLvl ≠ am := by
    cases h : s.config.hasAm <;> simp [latching_iff, and_assoc]
  exact or_eq_ite_of_iff edge

/-- R37 with R175: `ENV_STATUS` as one record update. -/
theorem envStatus_eq (dr am : Bool) (s : State) :
    envStatus dr am s = { s with
      drLvl := if s.config.hasDr then dr else false
      amLvl := if s.config.hasAm then am else false
      irqDrPend := if s.config.disc = .interruptDriven ∧ s.initDone = true ∧ s.config.hasDr = true ∧
          s.drLvl = false ∧ dr = true then true else s.irqDrPend
      irqAmPend := if s.config.disc = .interruptDriven ∧ s.initDone = true ∧ s.config.hasAm = true ∧
          s.amLvl ≠ am then true else s.irqAmPend } := by
  rw [← envStatus_irqDrPend dr am s, ← envStatus_irqAmPend dr am s]
  simp [envStatus, latchEdges, Bool.and_comm]

/-- R27: the counter counts up and stays at 65535. -/
theorem tickUp_eq (t : Ticks) : tickUp t = if t = 65535#16 then 65535#16 else t + 1 := by
  by_cases h : t = 65535#16
  · subst h
    rfl
  · rw [if_neg h]
    apply BitVec.eq_of_toNat_eq
    rw [tickUp_toNat]
    bv_omega

theorem envLine_of_absent {l : Line} {s : State} (h : s.config.hasLine l = false) (v : Bool) : envLine l v s = s := by
  simp [envLine, h]

theorem envLine_of_present {l : Line} {s : State} (h : s.config.hasLine l = true) (v : Bool) :
    envLine l v s = setLine l v s := by
  simp [envLine, h]

/-- Settles O14: each listed turn is taken (`step_schedule`), with the effect `envStatus_eq`, `tickUp_eq`
and the two `envLine` lemmas give. -/
theorem environmentActions : Obligations.EnvironmentActions := by
  unfold Obligations.EnvironmentActions
  intro s ts hr
  have hstep (x : Turn) : step { s with schedule := x :: ts } = takeTurn x { s with schedule := ts } :=
    step_schedule s x ts hr
  refine ⟨fun dr am => ?_, fun c => hstep _, ?_, fun l v h => ?_, fun v h => ?_, fun v h => ?_, fun v h => ?_⟩ <;>
    rw [hstep] <;> apply congrArg Host.Outcome.next
  · exact envStatus_eq dr am { s with schedule := ts }
  · rw [← tickUp_eq]
    rfl
  · exact envLine_of_absent (s := { s with schedule := ts }) h v
  · exact envLine_of_present (l := .pwr) (s := { s with schedule := ts }) h v
  · exact envLine_of_present (l := .stby) (s := { s with schedule := ts }) h v
  · exact envLine_of_present (l := .txen) (s := { s with schedule := ts }) h v

/-! ## The reset step -/

/-- For a well-formed configuration the reset step's procedure (70_reset_and_hazards.md R200) gives R39's table. -/
theorem resetStep_of_wf {c : Config} (h : c.wf = true) (dr am cd : Bool) :
    resetStep c dr am cd = State.resetWith c dr am cd := by
  obtain ⟨hstby, -⟩ := c.wf_iff.1 h
  cases hp : c.hasPwr <;> cases ht : c.hasTxen <;>
    simp [resetStep, State.resetWith, State.resetTrace, Config.hasLine, lineWrite_pwr, lineWrite_stby, lineWrite_txen,
      startWait, h, hstby, hp, ht]

/-- A well-formed settle time fits the wait counter, so its 16-bit value is the time itself (00_scope.md R8). -/
theorem tInit_toNat_of_wf {c : Config} (h : c.wf = true) : (BitVec.ofNat 16 c.tInit).toNat = c.tInit := by
  obtain ⟨-, -, -, -, -, hfit⟩ := c.wf_iff.1 h
  rw [BitVec.toNat_ofNat]
  omega

/-- The records of a list of line writes: those of every write, less the ones to absent lines. -/
theorem writesTo_eq_filter (s : State) (ws : List (Line × Bool)) :
    writesTo s ws = (ws.map fun w => ⟨s.now, w.1, w.2⟩).filter fun r : LineRecord => s.config.hasLine r.line := by
  induction ws with
  | nil => rfl
  | cons w ws ih =>
    obtain ⟨l, v⟩ := w
    simp [writesTo, List.filter_cons, ih]

/-- R100: with power on wherever there is a power line, and standby asserted, the mode is STANDBY. -/
theorem mode_of_powered_standby {s : State} (hp : s.linePwr = s.config.hasPwr) (hs : lineRead .stby s = true) :
    mode s = .standby := by
  simp [mode, hp, hs]

/-- The trace of R39's table is what R51 records for R200's writes. -/
theorem State.resetTrace_eq_writesTo {s : State} {c : Config} (hc : s.config = c) (hn : s.now = 0) :
    State.resetTrace c = writesTo s [(.txen, false), (.pwr, false), (.stby, true), (.pwr, true)] := by
  rw [writesTo_eq_filter, hc, hn]
  rfl

/-- Settles O48: the reset step gives `State.resetWith`, whose fields are the table's; the settle time fits its register,
the trace is that of the reset writes, and the lines make the mode STANDBY. -/
theorem resetValues : Obligations.ResetValues := by
  unfold Obligations.ResetValues
  intro c dr am cd h
  obtain ⟨hstby, -⟩ := c.wf_iff.1 h
  rw [resetStep_of_wf h, State.resetWith, if_pos h]
  refine ⟨rfl, rfl, rfl, rfl, rfl, rfl, tInit_toNat_of_wf h, rfl, rfl, rfl, rfl, rfl, rfl, rfl, rfl, ?drLvl, ?amLvl, rfl,
    rfl, rfl, rfl, rfl, rfl, State.resetTrace_eq_writesTo rfl rfl, mode_of_powered_standby rfl ?stby⟩
  case drLvl => cases c.hasDr <;> rfl
  case amLvl => cases c.hasAm <;> rfl
  case stby => simp [lineRead, lineReg, Config.hasLine, hstby]

end Sys2Proof.Machine
end

section
/-! SUPPORT. The statements of spec/20_memory.md. Lemmas: each access primitive on a present and on an absent line (R51 to
R53), and the two bits of the status word (R54). -/

namespace Sys2Proof.Machine

/-! ## Line access -/

theorem lineWrite_of_absent {l : Line} {s : State} (h : s.config.hasLine l = false) (v : Bool) : lineWrite l v s = s := by
  simp [lineWrite, h]

theorem lineWrite_of_present {l : Line} {s : State} (h : s.config.hasLine l = true) (v : Bool) :
    lineWrite l v s = { setLine l v s with lineTrace := s.lineTrace ++ [⟨s.now, l, v⟩] } :=
  if_pos h

theorem lineRead_of_absent {l : Line} {s : State} (h : s.config.hasLine l = false) : lineRead l s = false := by
  simp [lineRead, h]

theorem lineRead_of_present {l : Line} {s : State} (h : s.config.hasLine l = true) : lineRead l s = lineReg l s :=
  if_pos h

/-! ## Carrier-detect and the status word -/

theorem cdRead_of_absent {s : State} (h : s.config.hasCd = false) : cdRead s = false := by
  simp [cdRead, h]

theorem cdRead_of_present {s : State} (h : s.config.hasCd = true) : cdRead s = s.cdLvl :=
  if_pos h

@[simp] theorem statusRead_bit_one (s : State) : (statusRead s)[1] = s.drLvl :=
  (BitVec.getElem_append (x := .ofBool s.drLvl) (y := .ofBool s.amLvl) (by decide)).trans (by simp)

@[simp] theorem statusRead_bit_zero (s : State) : (statusRead s)[0] = s.amLvl :=
  (BitVec.getElem_append (x := .ofBool s.drLvl) (y := .ofBool s.amLvl) (by decide)).trans (by simp)

/-- Settles O15: each clause is the primitive's lemma for a present or an absent line, or a bit of the status word. -/
theorem lineAndStatusAccess : Obligations.LineAndStatusAccess := by
  unfold Obligations.LineAndStatusAccess
  intro s v
  have present (l : Line) (h : s.config.hasLine l = true) : lineRead l s = lineReg l s ∧
      lineWrite l v s = { setLine l v s with lineTrace := s.lineTrace ++ [⟨s.now, l, v⟩] } :=
    ⟨lineRead_of_present h, lineWrite_of_present h v⟩
  exact ⟨fun _ h => ⟨lineWrite_of_absent h v, lineRead_of_absent h⟩, present .pwr, present .stby, present .txen,
    cdRead_of_present, cdRead_of_absent, statusRead_bit_one s, statusRead_bit_zero s⟩

end Sys2Proof.Machine
end

section
/-! SUPPORT. The statements of spec/30_encoding.md. Lemmas: a word and its two fields (R70), what each opcode's argument
decodes to (R72 to R74, R80), and that an instruction is decoded from its own encoding and from no other word. -/

namespace Sys2Proof

/-! ## A word and its two fields -/

@[simp] theorem opField_append (op arg : BitVec 4) : opField (op ++ arg) = op := BitVec.extractLsb'_append_eq_left

@[simp] theorem argField_append (op arg : BitVec 4) : argField (op ++ arg) = arg := BitVec.extractLsb'_append_eq_right

theorem opField_toNat (w : Word) : (opField w).toNat = w.toNat / 16 := by
  have := w.isLt
  rw [opField, BitVec.extractLsb'_toNat, Nat.shiftRight_eq_div_pow]
  omega

theorem argField_toNat (w : Word) : (argField w).toNat = w.toNat % 16 := by
  simp [argField]

theorem getElem_argField (w : Word) (k : Nat) (hk : k < 4) : (argField w)[k] = w[k] := by
  simp [argField, BitVec.getLsbD_eq_getElem (show k < 8 by omega)]

theorem commandWord_toNat (op : CommandOp) (arg : BitVec 4) :
    (commandWord op arg).toNat = 16 * op.code.toNat + arg.toNat := by
  have happ : (commandWord op arg).toNat = op.code.toNat <<< 4 ||| arg.toNat := BitVec.toNat_append _ _
  rw [happ, ← Nat.shiftLeft_add_eq_or_of_lt arg.isLt, Nat.shiftLeft_eq, Nat.mul_comm]

theorem setcbWord_toNat (mask : BitVec 4) : (commandWord .setcb mask).toNat = 0x60 + mask.toNat :=
  commandWord_toNat .setcb mask

/-- A word with the opcode of a command is a word of that command. -/
theorem eq_commandWord {w : Word} {op : CommandOp} (h : w.toNat / 16 = op.code.toNat) :
    w = commandWord op (argField w) := by
  apply BitVec.eq_of_toNat_eq
  rw [commandWord_toNat, argField_toNat]
  omega

/-- R71: an opcode is illegal or a command's. -/
theorem opcode_cases (x : BitVec 4) : (x = 0x0#4 ∨ 8 ≤ x.toNat) ∨ ∃ op : CommandOp, x = op.code := by
  have hx : ∀ x : BitVec 4, (x = 0x0#4 ∨ 8 ≤ x.toNat) ∨
      ∃ op ∈ [CommandOp.pwrdn, .stby, .rx, .tx, .mode, .setcb, .poll], x = op.code := by decide
  exact (hx x).imp_right fun ⟨op, _, h⟩ => ⟨op, h⟩

/-! ## The argument of each command -/

theorem decodeNoOperand_of_ne {arg : BitVec 4} (h : arg ≠ 0) (i : Instr) :
    decodeNoOperand arg i = .refuse .reservedField :=
  if_neg h

theorem decodeNoOperand_eq_instr_iff (arg : BitVec 4) (i j : Instr) :
    decodeNoOperand arg i = .instr j ↔ arg = 0 ∧ i = j := by
  obtain rfl | h := eq_or_ne arg 0
  · simp [decodeNoOperand]
  · rw [decodeNoOperand_of_ne h]
    exact ⟨nofun, fun ⟨h0, _⟩ => absurd h0 h⟩

theorem nmField_eq_none {arg : BitVec 4} (h : arg.extractLsb' 0 2 = 0b11#2) : nmField arg = none := by
  rw [nmField, h]
  rfl

theorem nmField_eq_some_iff (arg : BitVec 4) (nm : NextMode) :
    nmField arg = some nm ↔ arg.extractLsb' 0 2 = nm.code := by
  revert arg
  cases nm <;> decide

theorem decodeTx_of_reserved_bit {arg : BitVec 4} (h : arg[3] = true) : decodeTx arg = .refuse .reservedField := by
  simp [decodeTx, h]

theorem decodeTx_of_reserved_nm {arg : BitVec 4} (h : arg[3] = false) (hnm : arg.extractLsb' 0 2 = 0b11#2) :
    decodeTx arg = .refuse .reservedNextMode := by
  simp [decodeTx, h, nmField_eq_none hnm]

theorem decodeTx_of_nm {arg : BitVec 4} (h : arg[3] = false) {nm : NextMode} (hnm : arg.extractLsb' 0 2 = nm.code) :
    decodeTx arg = .instr (.tx nm arg[2]) := by
  simp [decodeTx, h, (nmField_eq_some_iff arg nm).2 hnm]

/-- R73: TX's argument is `0 ca nm[1:0]`. -/
theorem eq_txArg {arg : BitVec 4} (h : arg[3] = false) {nm : NextMode} (hnm : arg.extractLsb' 0 2 = nm.code) :
    arg = txArg nm arg[2] := by
  revert arg
  cases nm <;> decide

theorem decodeTx_txArg (nm : NextMode) (ca : Bool) : decodeTx (txArg nm ca) = .instr (.tx nm ca) := by
  cases nm <;> cases ca <;> rfl

theorem exists_txArg_of_decodeTx {arg : BitVec 4} {i : Instr} (h : decodeTx arg = .instr i) :
    ∃ nm ca, i = .tx nm ca ∧ arg = txArg nm ca := by
  unfold decodeTx at h
  split at h
  · cases h
  · split at h
    · cases h
    · next hbit _ nm hnm =>
      cases h
      exact ⟨nm, arg[2], rfl, eq_txArg (eq_false_of_ne_true hbit) ((nmField_eq_some_iff arg nm).1 hnm)⟩

/-! ## Decoding a word -/

/-- The decoder's row of `op` in R80's case table. -/
def decodeArg (op : CommandOp) (arg : BitVec 4) : Decoded :=
  match op with
  | .pwrdn => decodeNoOperand arg .pwrdn
  | .stby => decodeNoOperand arg .stby
  | .rx => decodeNoOperand arg .rx
  | .tx => decodeTx arg
  | .mode => decodeNoOperand arg .mode
  | .setcb => .instr (.setcb arg)
  | .poll => decodeNoOperand arg .poll

theorem decodeCommand_commandWord (op : CommandOp) (arg : BitVec 4) :
    decodeCommand (commandWord op arg) = decodeArg op arg := by
  cases op <;> simp [decodeCommand, commandWord, CommandOp.code, decodeArg]

theorem decodeCommand_of_opcode {w : Word} {op : CommandOp} (h : w.toNat / 16 = op.code.toNat) :
    decodeCommand w = decodeArg op (argField w) :=
  (congrArg decodeCommand (eq_commandWord h)).trans (decodeCommand_commandWord op _)

theorem decodeCommand_of_illegal_opcode {w : Word} (h : opField w = 0x0#4 ∨ 8 ≤ (opField w).toNat) :
    decodeCommand w = .refuse .illegalOpcode := by
  have hop : (opField w).toNat = 0 ∨ 8 ≤ (opField w).toNat := h.imp_left (congrArg BitVec.toNat)
  unfold decodeCommand
  split
  case h_8 => rfl
  all_goals omega

/-- The command a word decodes to has that word as its encoding. -/
theorem encode_of_decodeArg {op : CommandOp} {arg : BitVec 4} {i : Instr} (h : decodeArg op arg = .instr i) :
    encode i = .command (commandWord op arg) := by
  cases op with
  | tx =>
    obtain ⟨nm, ca, rfl, rfl⟩ := exists_txArg_of_decodeTx h
    rfl
  | setcb =>
    cases h
    rfl
  | _ =>
    obtain ⟨rfl, rfl⟩ := (decodeNoOperand_eq_instr_iff ..).1 h
    rfl

/-- An instruction is decoded from the command word that encodes it, and from no other; a handler step, whose encoding
is a latch vector, from none. -/
theorem decodeCommand_eq_instr_iff (w : Word) (i : Instr) : decodeCommand w = .instr i ↔ encode i = .command w := by
  constructor
  · intro h
    obtain hill | ⟨op, hop⟩ := opcode_cases (opField w)
    · rw [decodeCommand_of_illegal_opcode hill] at h
      cases h
    · have hnat : w.toNat / 16 = op.code.toNat := by rw [← opField_toNat, hop]
      rw [decodeCommand_of_opcode hnat] at h
      rw [encode_of_decodeArg h, ← eq_commandWord hnat]
  · intro h
    cases i with
    | irqDr => cases h
    | irqAm => cases h
    | tx nm ca =>
      cases h
      rw [decodeCommand_commandWord]
      exact decodeTx_txArg nm ca
    | _ =>
      cases h
      exact decodeCommand_commandWord ..

/-- Settles O10: the decoder's rows are those of `decodeArg`, TX's with its checks in order; the step of a refused word
is that of `stepAcceptsOrHoldsTheHostsWord`. -/
theorem decodeTableAndRefusedWords : Obligations.DecodeTableAndRefusedWords := by
  unfold Obligations.DecodeTableAndRefusedWords
  constructor
  · intro op arg
    have row (c : CommandOp) (h : op = c.code) : decodeCommand (op ++ arg) = decodeArg c arg :=
      h ▸ decodeCommand_commandWord c arg
    exact ⟨row .pwrdn, row .stby, row .rx, fun h hbit => (row .tx h).trans (decodeTx_of_reserved_bit hbit),
      fun h hbit hnm => (row .tx h).trans (decodeTx_of_reserved_nm hbit hnm),
      fun h hbit _ hnm => (row .tx h).trans (decodeTx_of_nm hbit hnm), row .mode, row .setcb, row .poll,
      fun h => decodeCommand_of_illegal_opcode (by rwa [opField_append])⟩
  · intro s w ws ts r hopen hw
    obtain ⟨hr, hinit, hseq⟩ := (Machine.portOpen_iff s).1 hopen
    obtain ⟨-, refuse, -⟩ := Machine.stepAcceptsOrHoldsTheHostsWord s w ws ts hr
    exact refuse hinit hseq r hw

/-- Settles O1: each of the five is decoded from its encoding alone, and refuses a nonzero argument. -/
theorem noOperandCommandsHaveOneWord : Obligations.NoOperandCommandsHaveOneWord := by
  unfold Obligations.NoOperandCommandsHaveOneWord
  intro w
  have oneWord (i : Instr) (v : Word) (hv : encode i = .command v) : decodeCommand w = .instr i ↔ w = v := by
    rw [decodeCommand_eq_instr_iff, hv, Encoding.command.injEq, eq_comm]
  refine ⟨oneWord .pwrdn _ rfl, oneWord .stby _ rfl, oneWord .rx _ rfl, oneWord .mode _ rfl, oneWord .poll _ rfl,
    fun hop harg => ?_⟩
  have hne : argField w ≠ 0 := fun h0 => harg (by rw [← argField_toNat, h0]; rfl)
  have refused (op : CommandOp) (i : Instr) (hrow : decodeArg op (argField w) = decodeNoOperand (argField w) i)
      (h : w.toNat / 16 = op.code.toNat) : decodeCommand w = .refuse .reservedField := by
    rw [decodeCommand_of_opcode h, hrow, decodeNoOperand_of_ne hne]
  obtain h | h | h | h | h := hop
  · exact refused .pwrdn .pwrdn rfl h
  · exact refused .stby .stby rfl h
  · exact refused .rx .rx rfl h
  · exact refused .mode .mode rfl h
  · exact refused .poll .poll rfl h

/-- Settles O2: a word with opcode 4 decodes by `decodeTx` on its argument; the six words are the encodings of TX. -/
theorem txWordsCarryNextModeAndCollisionBit : Obligations.TxWordsCarryNextModeAndCollisionBit := by
  unfold Obligations.TxWordsCarryNextModeAndCollisionBit
  constructor
  · intro w hop
    have hdec : decodeCommand w = decodeTx (argField w) := decodeCommand_of_opcode (op := .tx) hop
    have hnm (x : BitVec 2) (h : w.toNat % 4 = x.toNat) : (argField w).extractLsb' 0 2 = x := by
      apply BitVec.eq_of_toNat_eq
      rw [BitVec.extractLsb'_toNat, argField_toNat, ← h]
      omega
    rw [hdec, ← getElem_argField w 3 (by decide), ← getElem_argField w 2 (by decide)]
    exact ⟨decodeTx_of_reserved_bit, fun h3 h => decodeTx_of_reserved_nm h3 (hnm _ h),
      fun h3 h => decodeTx_of_nm h3 (nm := .transmit) (hnm _ h),
      fun h3 h => decodeTx_of_nm h3 (nm := .standby) (hnm _ h),
      fun h3 h => decodeTx_of_nm h3 (nm := .receive) (hnm _ h)⟩
  · intro w
    simp only [decodeCommand_eq_instr_iff]
    constructor
    · rintro ⟨nm, ca, h⟩
      cases h
      cases nm <;> cases ca <;> decide
    · intro h
      fin_cases h
      exacts [⟨.transmit, false, rfl⟩, ⟨.standby, false, rfl⟩, ⟨.receive, false, rfl⟩, ⟨.transmit, true, rfl⟩,
        ⟨.standby, true, rfl⟩, ⟨.receive, true, rfl⟩]

/-- Settles O3: `0x60 + mask` is SETCB's encoding, whose meaning writes the mask; a word from 0x60 to 0x6F has SETCB's
opcode. -/
theorem setcbWordWritesItsMask : Obligations.SetcbWordWritesItsMask := by
  unfold Obligations.SetcbWordWritesItsMask
  constructor
  · intro mask s
    have hword : commandWord .setcb mask = BitVec.ofNat 8 (0x60 + mask.toNat) := by
      apply BitVec.eq_of_toNat_eq
      rw [setcbWord_toNat, BitVec.toNat_ofNat]
      omega
    exact ⟨(decodeCommand_eq_instr_iff _ _).2 (congrArg _ hword), _, rfl, rfl, rfl, rfl, rfl, rfl⟩
  · intro w
    simp only [decodeCommand_eq_instr_iff]
    constructor
    · rintro ⟨mask, h⟩
      cases h
      rw [setcbWord_toNat]
      omega
    · rintro ⟨hlo, hhi⟩
      have hop : w.toNat / 16 = CommandOp.setcb.code.toNat := by
        change w.toNat / 16 = 6
        omega
      exact ⟨argField w, congrArg _ (eq_commandWord hop).symm⟩

/-- Settles O4: the decoder evaluated on the 256 words. -/
theorem legalWordsAreTwentySeven : Obligations.LegalWordsAreTwentySeven := by
  unfold Obligations.LegalWordsAreTwentySeven
  decide

/-! ## The latch vector -/

theorem irqDr_mem_decodeLatches (v : BitVec 2) : Instr.irqDr ∈ decodeLatches v ↔ v[0] = true := by
  simp [decodeLatches]

theorem irqAm_mem_decodeLatches (v : BitVec 2) : Instr.irqAm ∈ decodeLatches v ↔ v[1] = true := by
  simp [decodeLatches]

namespace Machine

theorem irqDrTurn_of_pending {s : State} (hr : s.refused = false) (h : s.irqDrPend = true) :
    irqDrTurn s = exec .irqDr s := by
  simp [irqDrTurn, irqDrEnabled, hr, h]

theorem irqAmTurn_of_pending {s : State} (hr : s.refused = false) (h : s.irqAmPend = true) :
    irqAmTurn s = exec .irqAm s := by
  simp [irqAmTurn, irqAmEnabled, hr, h]

/-- Settles O8: a handler step is encoded as a latch vector, so no word decodes to it; its bit lists it, and the step of
its turn is `exec` when its latch is set. -/
theorem handlersAreMatchedOnTheLatchVector : Obligations.HandlersAreMatchedOnTheLatchVector := by
  unfold Obligations.HandlersAreMatchedOnTheLatchVector
  refine ⟨fun w => ⟨?_, ?_⟩, fun v => ?_, rfl, rfl, fun s ts hr => ⟨fun h => ?_, fun h => ?_⟩⟩
  · rw [Ne, decodeCommand_eq_instr_iff]
    rintro ⟨⟩
  · rw [Ne, decodeCommand_eq_instr_iff]
    rintro ⟨⟩
  · rw [irqDr_mem_decodeLatches, irqAm_mem_decodeLatches]
    revert v
    decide
  · rw [step_schedule s .irqDr ts hr]
    exact irqDrTurn_of_pending (s := { s with schedule := ts }) hr h
  · rw [step_schedule s .irqAm ts hr]
    exact irqAmTurn_of_pending (s := { s with schedule := ts }) hr h

end Machine

end Sys2Proof
end

section
/-! SUPPORT. The statements of spec/40_mode_sequencer.md. Lemmas: the mode by its cases (R100), a list of line writes as one
record update (R51), TxStart as line writes and then a response or a wait (R112), the enabling of `WAIT_DONE` (R102), and
the turns that keep the mode while the sequencer is idle (R107). -/

namespace Sys2Proof.Machine

/-! ## The mode -/

/-- R100's first case: power dominates. -/
theorem mode_of_unpowered {s : State} (h : s.config.hasPwr = true) (hp : s.linePwr = false) : mode s = .powerDown := by
  simp [mode, h, hp]

/-- R100's other cases: with power on, or no power line, the standby and the tx-enable line decide. -/
theorem mode_of_powered {s : State} (h : s.config.hasPwr = false ∨ s.linePwr = true) :
    mode s = if lineRead .stby s then .standby
      else if s.config.hasTxen then (if s.lineTxen then .transmit else .receive) else .activeUnknown := by
  unfold mode
  rw [if_neg]
  obtain h | h := h <;> simp [h]

theorem mode_of_standby {s : State} (h : s.config.hasPwr = false ∨ s.linePwr = true) (hs : lineRead .stby s = true) :
    mode s = .standby := by
  rw [mode_of_powered h, if_pos hs]

theorem mode_of_active {s : State} (h : s.config.hasPwr = false ∨ s.linePwr = true) (hs : lineRead .stby s = false) :
    mode s = if s.config.hasTxen then (if s.lineTxen then .transmit else .receive) else .activeUnknown := by
  rw [mode_of_powered h, if_neg (by simp [hs])]

theorem hasPwr_of_mode_powerDown {s : State} (h : mode s = .powerDown) : s.config.hasPwr = true := by
  by_contra hp
  rw [mode_of_powered (.inl (Bool.eq_false_of_not_eq_true hp))] at h
  repeat' split at h
  all_goals cases h

/-- The mode reads the configuration and the control lines, and nothing else (R100). -/
theorem mode_congr {s t : State} (hc : t.config = s.config) (hp : t.linePwr = s.linePwr) (hs : t.lineStby = s.lineStby)
    (hx : t.lineTxen = s.lineTxen) : mode t = mode s := by
  simp [mode, lineRead, lineReg, hc, hp, hs, hx]

@[simp] theorem mode_respond (op : CommandOp) (v : Word) (s : State) : mode (respond op v s) = mode s := rfl

/-- Settles O16: `mode_of_unpowered`, `mode_of_standby`, and `mode_of_active` at each level of the tx-enable line. -/
theorem modeIsAFunctionOfTheLines : Obligations.ModeIsAFunctionOfTheLines := by
  unfold Obligations.ModeIsAFunctionOfTheLines
  refine fun s => ⟨mode_of_unpowered, fun hp => ⟨mode_of_standby hp, fun hs => ?_⟩⟩
  rw [mode_of_active hp hs]
  exact ⟨fun hx hl => by simp [hx, hl], fun hx hl => by simp [hx, hl], fun hx => by simp [hx]⟩

/-! ## Lists of line writes -/

/-- Writes of control lines, one after another. -/
def lineWrites : List (Line × Bool) → State → State
  | [], s => s
  | (l, v) :: ws, s => lineWrites ws (lineWrite l v s)

/-- The level that the last write to `l` in a list of writes asks for. -/
def lastWrite (l : Line) : List (Line × Bool) → Option Bool
  | [] => none
  | (k, v) :: ws => (lastWrite l ws).or (if k = l then some v else none)

/-- The register of `l` after a list of writes: driven by the last write to `l`, if there is one. -/
def levelAfter (s : State) (l : Line) (ws : List (Line × Bool)) : Bool :=
  (lastWrite l ws).elim (lineReg l s) (driven s l)

theorem driven_of_present {l : Line} {s : State} (h : s.config.hasLine l = true) (v : Bool) : driven s l v = v :=
  if_pos h

theorem driven_of_absent {l : Line} {s : State} (h : s.config.hasLine l = false) (v : Bool) :
    driven s l v = lineReg l s := by
  simp [driven, h]

theorem levelAfter_of_present {l : Line} {ws : List (Line × Bool)} {v : Bool} {s : State} (h : s.config.hasLine l = true)
    (hv : lastWrite l ws = some v) : levelAfter s l ws = v := by
  simp [levelAfter, hv, driven_of_present h]

/-- An earlier write to any line does not show in a line driven after it. -/
theorem driven_lineWrite (k l : Line) (u v : Bool) (s : State) : driven (lineWrite k u s) l v = driven s l v := by
  cases h : s.config.hasLine l
  · rw [driven_of_absent h, driven_of_absent (by simpa using h), lineReg_lineWrite_unused k l u s h]
  · rw [driven_of_present h, driven_of_present (by simpa using h)]

theorem lineReg_lineWrite_self (l : Line) (v : Bool) (s : State) : lineReg l (lineWrite l v s) = driven s l v := by
  simp [driven]

theorem lineReg_lineWrite_of_ne {k l : Line} (h : k ≠ l) (v : Bool) (s : State) :
    lineReg l (lineWrite k v s) = lineReg l s := by
  simp [h.symm]

theorem writesTo_lineWrite (l : Line) (v : Bool) (s : State) (ws : List (Line × Bool)) :
    writesTo (lineWrite l v s) ws = writesTo s ws := by
  simp [writesTo_eq_filter]

theorem levelAfter_lineWrite (k l : Line) (v : Bool) (s : State) (ws : List (Line × Bool)) :
    levelAfter (lineWrite k v s) l ws = levelAfter s l ((k, v) :: ws) := by
  unfold levelAfter
  cases h : lastWrite l ws with
  | some u => simp [lastWrite, h, driven_lineWrite]
  | none =>
    by_cases hk : k = l
    · subst hk
      simpa [lastWrite, h] using lineReg_lineWrite_self k v s
    · simpa [lastWrite, h, hk] using lineReg_lineWrite_of_ne hk v s

/-- R51 for a list of writes: the registers at the levels of the last writes, one record for each write to a present line,
and nothing else changed. -/
theorem lineWrites_eq (ws : List (Line × Bool)) (s : State) :
    lineWrites ws s = { s with
      linePwr := levelAfter s .pwr ws
      lineStby := levelAfter s .stby ws
      lineTxen := levelAfter s .txen ws
      lineTrace := s.lineTrace ++ writesTo s ws } := by
  induction ws generalizing s with
  | nil => simp [lineWrites, levelAfter, lastWrite, lineReg, writesTo]
  | cons w ws ih =>
    obtain ⟨l, v⟩ := w
    have trace : (lineWrite l v s).lineTrace ++ writesTo s ws = s.lineTrace ++ writesTo s ((l, v) :: ws) := by
      cases h : s.config.hasLine l <;> simp [writesTo, h]
    rw [lineWrites, ih]
    simp only [levelAfter_lineWrite, writesTo_lineWrite, trace]
    apply State.ext <;> simp

/-- A present line that a list of writes drives is at its last level afterwards. -/
theorem lineReg_lineWrites {l : Line} {ws : List (Line × Bool)} {v : Bool} {s : State} (h : s.config.hasLine l = true)
    (hv : lastWrite l ws = some v) : lineReg l (lineWrites ws s) = v := by
  rw [lineWrites_eq, ← levelAfter_of_present h hv]
  cases l <;> rfl

theorem lineRead_lineWrites {l : Line} {ws : List (Line × Bool)} {v : Bool} {s : State} (h : s.config.hasLine l = true)
    (hv : lastWrite l ws = some v) : lineRead l (lineWrites ws s) = v := by
  rw [lineRead_of_present (by rw [lineWrites_eq]; exact h), lineReg_lineWrites h hv]

/-- Once power is driven to 1, the mode is a powered one, whether or not the power line is present. -/
theorem powered_lineWrites {ws : List (Line × Bool)} (hv : lastWrite .pwr ws = some true) (s : State) :
    (lineWrites ws s).config.hasPwr = false ∨ (lineWrites ws s).linePwr = true := by
  cases h : s.config.hasPwr
  · exact .inl (by rw [lineWrites_eq]; exact h)
  · exact .inr (lineReg_lineWrites (l := .pwr) h hv)

/-! ## The accept steps of PWRDN, STBY, RX and MODE -/

theorem exec_pwrdn_eq (s : State) : exec .pwrdn s = .next (respond .pwrdn 0 (lineWrite .pwr false s)) := rfl

theorem exec_stby_eq (s : State) :
    exec .stby s = .next (respond .stby 0 (lineWrites [(.stby, true), (.pwr, true)] s)) := rfl

theorem exec_rx_eq (s : State) :
    exec .rx s = .next (respond .rx 0 (lineWrites [(.txen, false), (.stby, false), (.pwr, true)] s)) := rfl

theorem exec_mode_eq (s : State) : exec .mode s = .next (respond .mode ((mode s).code.setWidth 8) s) := rfl

/-- Settles O17: the one write is to a present or to an absent power line. -/
theorem pwrdnDeassertsPower : Obligations.PwrdnDeassertsPower := by
  unfold Obligations.PwrdnDeassertsPower
  intro s
  rw [exec_pwrdn_eq]
  refine ⟨fun h => ?_, fun h => ?_⟩
  · rw [lineWrite_of_present (l := .pwr) h]
    rfl
  · rw [lineWrite_of_absent (l := .pwr) h]
    exact ⟨rfl, _, rfl, mode_respond _ _ s⟩

/-- Settles O18: two line writes and a response; power and standby are then both at 1. -/
theorem stbyAssertsStandbyThenPower : Obligations.StbyAssertsStandbyThenPower := by
  unfold Obligations.StbyAssertsStandbyThenPower
  intro s
  rw [exec_stby_eq]
  refine ⟨by rw [lineWrites_eq]; rfl, fun h => ⟨_, rfl, ?_⟩⟩
  rw [mode_respond]
  exact mode_of_standby (powered_lineWrites rfl s) (lineRead_lineWrites (l := .stby) h rfl)

/-- Settles O19: three line writes and a response; power is then at 1 and standby at 0, and so is tx-enable where it is
present. -/
theorem rxDeassertsTxenAndStandbyThenAssertsPower : Obligations.RxDeassertsTxenAndStandbyThenAssertsPower := by
  unfold Obligations.RxDeassertsTxenAndStandbyThenAssertsPower
  intro s
  rw [exec_rx_eq]
  refine ⟨by rw [lineWrites_eq]; rfl, fun h => ⟨_, rfl, ?_⟩⟩
  rw [mode_respond, mode_of_active (powered_lineWrites rfl s) (lineRead_lineWrites (l := .stby) h rfl)]
  have hconfig (ws : List (Line × Bool)) : (lineWrites ws s).config = s.config := by rw [lineWrites_eq]
  rw [hconfig]
  cases hx : s.config.hasTxen with
  | false => rfl
  | true =>
    have htxen : (lineWrites [(.txen, false), (.stby, false), (.pwr, true)] s).lineTxen = false :=
      lineReg_lineWrites (l := .txen) hx rfl
    simp [htxen]

/-- Settles O20: the accept step appends the 8-bit mode code; the second clause is the closed port of
`stepAcceptsOrHoldsTheHostsWord`. -/
theorem modeRespondsItsCode : Obligations.ModeRespondsItsCode := by
  unfold Obligations.ModeRespondsItsCode
  refine fun s => ⟨?code, fun ws ts hr hq => (stepAcceptsOrHoldsTheHostsWord s 0x50#8 ws ts hr).2.2 (.inr hq)⟩
  rw [exec_mode_eq]
  cases mode s <;> rfl

/-! ## The mode after a mode command -/

/-- A turn that presents no command, changes no line from outside and is no reset (R107's premise). -/
def quietTurn (x : Turn) : Prop := x ≠ .host ∧ isEnvLine x = false ∧ isReset x = false

/-- While the sequencer is idle, a quiet turn keeps it idle and keeps the mode. -/
theorem idle_turn_keeps_mode {x : Turn} {s t : State} (hx : quietTurn x) (h : takeTurn x s = .next t) :
    s.seq = .idle → t.seq = .idle ∧ mode t = mode s := by
  obtain ⟨hhost, hline, hreset⟩ := hx
  refine takeTurn_elim h (fun s t => s.seq = .idle → t.seq = .idle ∧ mode t = mode s) ?hold ?command ?refuse ?waitDone
    ?irqDr ?irqAm ?status ?carrier ?tick ?line ?reset
  case hold => exact fun s hq => ⟨hq, rfl⟩
  case command => exact fun _ _ _ _ _ _ _ _ hx => absurd hx hhost
  case refuse => exact fun _ _ _ _ _ _ hx => absurd hx hhost
  case waitDone =>
    intro s he _ hq
    simp [waitDoneEnabled, hq] at he
  case irqDr => exact fun s _ _ hq => ⟨by simpa using hq, mode_congr (by simp) (by simp) (by simp) (by simp)⟩
  case irqAm => exact fun s _ _ hq => ⟨by simpa using hq, mode_congr (by simp) (by simp) (by simp) (by simp)⟩
  case status => exact fun s _ _ _ hq => ⟨hq, rfl⟩
  case carrier => exact fun s _ _ hq => ⟨hq, rfl⟩
  case tick => exact fun s _ hq => ⟨hq, rfl⟩
  case line =>
    rintro _ _ _ rfl
    cases hline
  case reset =>
    rintro _ _ _ _ _ rfl
    cases hreset

/-- A run of quiet turns from an idle sequencer keeps the mode. -/
theorem idle_run_keeps_mode {ts : List Turn} {s u : State} (hq : s.seq = .idle) (hts : ∀ x ∈ ts, quietTurn x)
    (h : runTurns ts s = .next u) : mode u = mode s := by
  refine (runTurns_keeps (fun t => t.seq = .idle ∧ mode t = mode s) quietTurn ?_ hts ⟨hq, rfl⟩ h).2
  rintro x t t' hx ⟨hq, hm⟩ ht
  obtain ⟨hq', hm'⟩ := idle_turn_keeps_mode hx ht hq
  exact ⟨hq', hm'.trans hm⟩

/-- The mode a command leaves with its response is the mode after any quiet turns. -/
theorem mode_after_response {i : Instr} {op : CommandOp} {v : Word} {s r : State} {m : Mode}
    (hexec : exec i s = .next (respond op v r)) (hmode : ∃ t, exec i s = .next t ∧ mode t = m) :
    ∃ t, exec i s = .next t ∧
      ∀ (ts : List Turn) (u : State), (∀ x ∈ ts, quietTurn x) → runTurns ts t = .next u → mode u = m := by
  obtain ⟨t, ht, hm⟩ := hmode
  cases hexec.symm.trans ht
  exact ⟨_, hexec, fun ts u hts h => (idle_run_keeps_mode rfl hts h).trans hm⟩

/-- Settles O21: each of the three commands responds in the mode O17, O18 and O19 give, and `mode_after_response` carries
that mode on. -/
theorem modeAfterModeCommands : Obligations.ModeAfterModeCommands := by
  unfold Obligations.ModeAfterModeCommands
  intro s hwf
  obtain ⟨hstby, -⟩ := s.config.wf_iff.1 hwf
  refine ⟨mode_after_response (exec_pwrdn_eq s) ?pwrdn,
    mode_after_response (exec_stby_eq s) ((stbyAssertsStandbyThenPower s).2 hstby),
    mode_after_response (exec_rx_eq s) ((rxDeassertsTxenAndStandbyThenAssertsPower s).2 hstby)⟩
  obtain ⟨present, absent⟩ := pwrdnDeassertsPower s
  cases h : s.config.hasPwr with
  | false => exact (absent h).2
  | true => exact ⟨_, present h, mode_of_unpowered h rfl⟩

/-! ## TxStart and TX's accept step -/

/-- The lines TxStart writes when it works from mode `m` (R112). -/
def txStartWrites (m : Mode) : List (Line × Bool) :=
  if m = .standby then [(.txen, true), (.stby, false)] else [(.txen, true)]

theorem txStart_transmit (m : Mode) (s : State) :
    txStart .transmit m s = respond .tx 1 (lineWrites (txStartWrites m) s) := by
  by_cases h : m = .standby <;> simp [txStart, txStartWrites, lineWrites, h]

theorem txStart_standby (m : Mode) (s : State) :
    txStart .standby m s = startWait s.config.tSettle .txSbWait (lineWrites (txStartWrites m) s) := by
  by_cases h : m = .standby <;> simp [txStart, txStartWrites, lineWrites, h]

theorem txStart_receive (m : Mode) (s : State) :
    txStart .receive m s =
      startWait (if m = .standby then s.config.tTxpulse else s.config.tSettle) .txRxWait
        (lineWrites (txStartWrites m) s) := by
  by_cases h : m = .standby <;> simp [txStart, txStartWrites, lineWrites, h]

theorem exec_tx_of_powerDown {s : State} (h : mode s = .powerDown) (nm : NextMode) (ca : Bool) :
    exec (.tx nm ca) s = .next (txFromPowerDown nm s) :=
  if_pos h

theorem exec_tx_of_free {s : State} (h : mode s ≠ .powerDown) {ca : Bool} (hfree : (ca && cdRead s) = false)
    (nm : NextMode) : exec (.tx nm ca) s = .next (txStart nm (mode s) s) := by
  simp [exec, execTx, h, hfree]

theorem exec_tx_of_busy {s : State} (h : mode s ≠ .powerDown) (hcd : s.config.hasCd = true) (hbusy : s.cdLvl = true)
    (nm : NextMode) : exec (.tx nm true) s = .next (respond .tx 0 s) := by
  simp [exec, execTx, h, cdRead_of_present hcd, hbusy]

/-- Settles O22: from POWER_DOWN the writes of the power-up (and, for TRANSMIT, of TxStart after it); from a powered mode
TxStart for each next mode, or the abort. -/
theorem txAcceptStep : Obligations.TxAcceptStep := by
  unfold Obligations.TxAcceptStep
  refine ⟨fun s ca hm => ?powerDown, fun s ca hm hfree => ?free, fun s nm hm hcd hbusy => ?busy⟩
  case powerDown =>
    have power {ws : List (Line × Bool)} : lastWrite .pwr ws = some true → levelAfter s .pwr ws = true :=
      levelAfter_of_present (l := .pwr) (hasPwr_of_mode_powerDown hm)
    refine ⟨?_, fun nm hnm => ?_⟩
    · have hexec : exec (.tx .transmit ca) s =
          .next (respond .tx 1 (lineWrites [(.stby, true), (.pwr, true), (.txen, true), (.stby, false)] s)) :=
        exec_tx_of_powerDown hm .transmit ca
      rw [hexec, lineWrites_eq, power (ws := [(.stby, true), (.pwr, true), (.txen, true), (.stby, false)]) rfl]
      rfl
    · have hexec : exec (.tx nm ca) s = .next
          (startWait s.config.tPwrup .txPwrupWait { lineWrites [(.stby, true), (.pwr, true)] s with txNm := nm }) := by
        rw [exec_tx_of_powerDown hm, txFromPowerDown, if_neg hnm]
        rfl
      rw [hexec, lineWrites_eq, power (ws := [(.stby, true), (.pwr, true)]) rfl]
      rfl
  case free =>
    have hcheck : (ca && cdRead s) = false := by
      obtain rfl | h | h := hfree
      · rfl
      · simp [cdRead_of_absent h]
      · simp [cdRead, h]
    simp only [exec_tx_of_free hm hcheck, txStart_transmit, txStart_standby, txStart_receive, lineWrites_eq]
    by_cases hs : mode s = .standby
    · simp only [txStartWrites, if_pos hs]
      exact ⟨rfl, rfl, rfl⟩
    · simp only [txStartWrites, if_neg hs]
      exact ⟨rfl, rfl, rfl⟩
  case busy => exact exec_tx_of_busy hm hcd hbusy nm

/-- Settles O23: the abort is O22's last clause, a response alone, and a response keeps the mode. -/
theorem txAbortsOnABusyChannel : Obligations.TxAbortsOnABusyChannel := by
  unfold Obligations.TxAbortsOnABusyChannel
  intro s nm hm hcd hbusy
  rw [exec_tx_of_busy hm hcd hbusy]
  refine ⟨rfl, ?_⟩
  rintro t ⟨⟩
  exact mode_respond .tx 0 s

/-! ## WAIT_DONE -/

theorem waitDoneEnabled_iff (s : State) :
    waitDoneEnabled s = true ↔ s.refused = false ∧ s.seq ≠ .idle ∧ s.dlyTarget.toNat ≤ s.dlyElapsed.toNat := by
  simp [waitDoneEnabled, BitVec.le_def, and_assoc]

/-- The step of a WAIT_DONE turn that is not enabled is a hold. -/
theorem step_waitDone_of_not_enabled {s : State} (hr : s.refused = false) (ts : List Turn)
    (h : waitDoneEnabled s = false) : step { s with schedule := .waitDone :: ts } = .next { s with schedule := ts } := by
  rw [step_schedule s .waitDone ts hr]
  exact congrArg _ (if_neg (Bool.eq_false_iff.1 h))

/-- The step of an enabled WAIT_DONE turn completes the wait. -/
theorem step_waitDone_of_enabled {s : State} (ts : List Turn) (h : waitDoneEnabled s = true) :
    step { s with schedule := .waitDone :: ts } = .next (waitComplete { s with schedule := ts }) := by
  rw [step_schedule s .waitDone ts ((waitDoneEnabled_iff s).1 h).1]
  exact congrArg _ (if_pos h)

/-- R201: the reset settle wait completes with `InitDone` and no response. -/
theorem waitComplete_initWait {s : State} (h : s.seq = .initWait) : waitComplete s = initDoneStep s := by
  simp [waitComplete, h]

/-- R111: the power-up wait completes with TxStart from STANDBY, for the held `TX_NM`. -/
theorem waitComplete_txPwrupWait {s : State} (h : s.seq = .txPwrupWait) :
    waitComplete s = txStart s.txNm .standby s := by
  simp [waitComplete, h]

/-- R113: the wait before RECEIVE completes with TXEN 0 and response 1. -/
theorem waitComplete_txRxWait {s : State} (h : s.seq = .txRxWait) :
    waitComplete s = respond .tx 1 (lineWrites [(.txen, false)] s) := by
  simp [waitComplete, h, lineWrites]

/-- R114: the wait before STANDBY completes with STBY 1 and response 1. -/
theorem waitComplete_txSbWait {s : State} (h : s.seq = .txSbWait) :
    waitComplete s = respond .tx 1 (lineWrites [(.stby, true)] s) := by
  simp [waitComplete, h, lineWrites]

/-- Settles O24: a hold while WAIT_DONE is not enabled, else the current wait's completion rule. -/
theorem waitDoneCompletesEachWait : Obligations.WaitDoneCompletesEachWait := by
  unfold Obligations.WaitDoneCompletesEachWait
  intro s ts hr
  refine ⟨fun h => step_waitDone_of_not_enabled hr ts ?_, fun hdue => ?_⟩
  · rw [← Bool.not_eq_true, waitDoneEnabled_iff]
    rintro ⟨-, hq, hdue⟩
    exact h.elim hq hdue.not_gt
  · have complete {q : Seq} (hq : s.seq = q) (hbusy : q ≠ .idle) :
        step { s with schedule := .waitDone :: ts } = .next (waitComplete { s with schedule := ts }) :=
      step_waitDone_of_enabled ts ((waitDoneEnabled_iff s).2 ⟨hr, hq ▸ hbusy, hdue⟩)
    refine ⟨fun hq => ?init, fun hq => ?rx, fun hq => ?sb, fun hq hnm => ?pwrupSb, fun hq hnm => ?pwrupRx⟩ <;>
      rw [complete hq (by decide)]
    case init => exact congrArg _ (waitComplete_initWait (s := { s with schedule := ts }) hq)
    case rx =>
      rw [waitComplete_txRxWait (s := { s with schedule := ts }) hq, lineWrites_eq]
      rfl
    case sb =>
      rw [waitComplete_txSbWait (s := { s with schedule := ts }) hq, lineWrites_eq]
      rfl
    case pwrupSb =>
      rw [waitComplete_txPwrupWait (s := { s with schedule := ts }) hq, hnm, txStart_standby, lineWrites_eq]
      rfl
    case pwrupRx =>
      rw [waitComplete_txPwrupWait (s := { s with schedule := ts }) hq, hnm, txStart_receive, lineWrites_eq]
      rfl

end Sys2Proof.Machine
end

section
/-! SUPPORT. The statements of spec/41_event_dispatcher.md. Lemmas: each dispatcher step as one record update by the rows of
R148 and R149, the events a turn can raise (R151), the rows that raise RX_COMPLETE, and the turns that move the
address-match level (R153). -/

namespace Sys2Proof.Machine

/-! ## The steps as record updates -/

theorem emit_eq (ctx : Ctx) (e : Event) (s : State) :
    emit ctx e s = { s with evtLog := s.evtLog ++ [eventRecord s ctx e] } := rfl

/-- Settles O33: SETCB's meaning is the mask's write and a response. -/
theorem setcbReplacesTheMask : Obligations.SetcbReplacesTheMask := by
  unfold Obligations.SetcbReplacesTheMask
  exact fun s mask => rfl

theorem status_cases (w : Status) : w = 0b11#2 ∨ w = 0b10#2 ∨ w = 0b01#2 ∨ w = 0b00#2 := by
  revert w
  decide

/-- R148's rows for a sample that differs from the remembered one. -/
theorem pollClassify_eq {w : Status} {s : State} (h : w ≠ s.pollLast) :
    pollClassify w s = { s with
      evtLog := s.evtLog ++ (pollRow w s.pollLast s.pollInam).1.toList.map (eventRecord s .foreground)
      pollInam := (pollRow w s.pollLast s.pollInam).2 } := by
  rw [pollRow, if_neg h]
  obtain rfl | rfl | rfl | rfl := status_cases w
  · rfl
  · rfl
  · rfl
  · cases hinam : s.pollInam with
    | true => simp [pollClassify, hinam, emit_eq]
    | false =>
      have unchanged : { s with pollInam := false } = s := by rw [← hinam]
      simp [pollClassify, hinam, unchanged]

/-- R145 with R148's rows: POLL in the polled discipline. -/
theorem pollStep_eq (s : State) :
    pollStep s = { s with
      evtLog := s.evtLog ++ (pollRow (statusRead s) s.pollLast s.pollInam).1.toList.map (eventRecord s .foreground)
      pollInam := (pollRow (statusRead s) s.pollLast s.pollInam).2
      pollLast := statusRead s
      respLog := s.respLog ++ [⟨s.now, .poll, 0x00#8⟩]
      seq := .idle } := by
  by_cases h : statusRead s = s.pollLast
  · simp [pollStep, pollRow, h, respond]
  · simp [pollStep, h, pollClassify_eq h, respond]

theorem drClassify_eq (s : State) :
    drClassify s = { s with
      pending := (drRow s.amLvl s.pending).2
      evtLog := s.evtLog ++ [eventRecord s .handler (drRow s.amLvl s.pending).1] } := by
  cases h : s.amLvl <;> simp [drClassify, drRow, h, emit_eq, eventRecord]

theorem amClassify_eq (s : State) :
    amClassify s = { s with
      pending := false
      evtLog := s.evtLog ++ (amRow s.amLvl s.pending).toList.map (eventRecord s .handler) } := by
  cases h : s.amLvl <;> cases hp : s.pending <;> simp [amClassify, amRow, h, hp, emit_eq]

theorem exec_poll_of_polled {s : State} (h : s.config.disc = .polled) : exec .poll s = .next (pollStep s) := by
  simp [exec, execPoll, h]

theorem exec_poll_of_interruptDriven {s : State} (h : s.config.disc = .interruptDriven) :
    exec .poll s = .next (raiseRefuse .discipline s) := by
  simp [exec, execPoll, h]

/-- Settles O34: `pollStep_eq` when polled, the refusal mark when interrupt-driven. -/
theorem pollClassifiesTheStatusWord : Obligations.PollClassifiesTheStatusWord := by
  unfold Obligations.PollClassifiesTheStatusWord
  refine ⟨fun s h => ?_, fun s h hr => ?_⟩
  · rw [exec_poll_of_polled h, pollStep_eq]
  · rw [exec_poll_of_interruptDriven h, raiseRefuse_of_not_refused hr]

/-- Settles O36: the handler's body is `drClassify` once the latch is cleared. -/
theorem dataReadyHandlerClassifiesByAddressMatch : Obligations.DataReadyHandlerClassifiesByAddressMatch := by
  unfold Obligations.DataReadyHandlerClassifiesByAddressMatch
  exact fun s => congrArg _ (drClassify_eq { s with irqDrPend := false })

/-- Settles O37: the handler's body is `amClassify` once the latch is cleared. -/
theorem addressMatchHandlerClassifiesByPending : Obligations.AddressMatchHandlerClassifiesByPending := by
  unfold Obligations.AddressMatchHandlerClassifiesByPending
  exact fun s => congrArg _ (amClassify_eq { s with irqAmPend := false })

/-! ## Duplicate suppression -/

theorem pollRow_of_unchanged (w : Status) (inam : Bool) : pollRow w w inam = (none, inam) := if_pos rfl

/-- R150: a POLL whose sample is the remembered one responds, and does nothing else. -/
theorem pollStep_of_unchanged {s : State} (h : statusRead s = s.pollLast) : pollStep s = respond .poll 0 s := by
  rw [pollStep_eq, h, pollRow_of_unchanged]
  simp [respond]

theorem statusRead_pollStep (s : State) : statusRead (pollStep s) = (pollStep s).pollLast := by
  rw [pollStep_eq]
  rfl

/-- Settles O35: `pollStep_of_unchanged`, which a second POLL meets because the first remembers its sample; the handlers'
event counts are read off O36 and O37. -/
theorem unchangedStatusRaisesNoEvent : Obligations.UnchangedStatusRaisesNoEvent := by
  unfold Obligations.UnchangedStatusRaisesNoEvent
  refine ⟨fun s h hlast => ?unchanged, fun s t h ht => ?second, fun s => ?dr, fun s => ?am⟩
  case unchanged =>
    rw [exec_poll_of_polled h, pollStep_of_unchanged hlast]
    rfl
  case second =>
    cases (exec_poll_of_polled h).symm.trans ht
    have again : exec .poll (pollStep s) = .next (respond .poll 0 (pollStep s)) := by
      rw [exec_poll_of_polled (by simpa using h), pollStep_of_unchanged (statusRead_pollStep s)]
    exact ⟨_, again, rfl, rfl, rfl⟩
  case dr => exact ⟨_, dataReadyHandlerClassifiesByAddressMatch s, by simp⟩
  case am =>
    refine ⟨_, addressMatchHandlerClassifiesByPending s, ?_⟩
    cases h : amRow s.amLvl s.pending <;> simp

/-! ## The events of a turn -/

/-- What a turn `x` from `s` to `t` adds to `EVT_LOG`: nothing, or the one event of POLL's row, of IRQ.DR's or of IRQ.AM's
(R148, R149). -/
inductive TurnEvent (x : Turn) (s t : State) : Prop where
  | silent (log : t.evtLog = s.evtLog)
  | poll (e : Event) (turn : x = .host) (polled : s.config.disc = .polled)
      (row : (pollRow (statusRead s) s.pollLast s.pollInam).1 = some e)
      (response : t.respLog = s.respLog ++ [⟨s.now, .poll, 0x00#8⟩])
      (log : t.evtLog = s.evtLog ++ [eventRecord s .foreground e])
  | dr (turn : x = .irqDr) (latched : s.irqDrPend = true)
      (log : t.evtLog = s.evtLog ++ [eventRecord s .handler (drRow s.amLvl s.pending).1])
  | am (e : Event) (turn : x = .irqAm) (row : amRow s.amLvl s.pending = some e)
      (log : t.evtLog = s.evtLog ++ [eventRecord s .handler e])

/-- Of the commands only POLL in the polled discipline can raise an event. -/
theorem exec_command_evtLog {i : Instr} {s t : State} (hi : i.isCommand = true) (h : exec i s = .next t) :
    t.evtLog = s.evtLog ∨ s.config.disc = .polled ∧ t = pollStep s := by
  obtain rfl | rfl | rfl | rfl | ⟨_, rfl⟩ | hpoll | ⟨-, rfl⟩ | ⟨-, _, rfl⟩ | ⟨-, rfl⟩ | ⟨-, _, rfl⟩ :=
    exec_command_cases hi h
  case inr.inr.inr.inr.inr.inl => exact .inr hpoll
  all_goals exact .inl (by simp)

theorem turnEvent_pollStep {s : State} (ws : List Word) (n : Nat) (h : s.config.disc = .polled) :
    TurnEvent .host s (pollStep { s with host := ws, freeCount := n }) := by
  have hlog : (pollStep { s with host := ws, freeCount := n }).evtLog = s.evtLog ++
      (pollRow (statusRead s) s.pollLast s.pollInam).1.toList.map (eventRecord s .foreground) := by
    rw [pollStep_eq]
    rfl
  cases hrow : (pollRow (statusRead s) s.pollLast s.pollInam).1 with
  | none => exact .silent (by simpa [hrow] using hlog)
  | some e => exact .poll e rfl h hrow (by rw [pollStep_eq]) (by simpa [hrow] using hlog)

theorem turnEvent_amClassify (s : State) : TurnEvent .irqAm s (amClassify { s with irqAmPend := false }) := by
  rw [amClassify_eq]
  cases hrow : amRow s.amLvl s.pending with
  | none => exact .silent (List.append_nil _)
  | some e => exact .am e rfl hrow rfl

theorem turnEvent_of_takeTurn {x : Turn} {s t : State} (hx : isReset x = false) (h : takeTurn x s = .next t) :
    TurnEvent x s t := by
  refine takeTurn_elim h (TurnEvent x) ?hold ?command ?refuse ?waitDone ?irqDr ?irqAm ?status ?carrier ?tick ?line ?reset
  case hold => exact fun s => .silent rfl
  case command =>
    rintro s ws n i hi - t he rfl
    obtain hlog | ⟨hdisc, rfl⟩ := exec_command_evtLog hi he
    · exact .silent hlog
    · exact turnEvent_pollStep ws n hdisc
  case refuse => exact fun s _ _ _ _ _ _ => .silent rfl
  case waitDone => exact fun s _ _ => .silent (by simp)
  case irqDr =>
    rintro s he rfl
    have hlatch : s.irqDrPend = true := (Bool.and_eq_true_iff.1 he).1
    exact .dr rfl hlatch (by rw [drClassify_eq]; rfl)
  case irqAm =>
    rintro s - rfl
    exact turnEvent_amClassify s
  case status => exact fun s _ _ _ => .silent rfl
  case carrier => exact fun s _ _ => .silent rfl
  case tick => exact fun s _ => .silent rfl
  case line => exact fun s _ _ _ => .silent (by simp)
  case reset =>
    rintro _ _ _ _ _ rfl
    cases hx

/-- The events of a step are those of its turn: taking the turn from the schedule touches nothing they depend on. -/
theorem turnEvent_of_step {s t : State} (hx : isReset (nextTurn s).1 = false) (h : step s = .next t) :
    TurnEvent (nextTurn s).1 s t := by
  obtain ⟨-, hturn⟩ := step_next h
  rw [nextTurn_snd] at hturn
  cases turnEvent_of_takeTurn hx hturn with
  | silent log => exact .silent log
  | poll e turn polled row response log => exact .poll e turn polled row response log
  | dr turn latched log => exact .dr turn latched log
  | am e turn row log => exact .am e turn row log

/-- Settles O38: each case of `TurnEvent` adds at most one record, and only POLL's stands on a host's turn. -/
theorem atMostOneEventPerStep : Obligations.AtMostOneEventPerStep := by
  unfold Obligations.AtMostOneEventPerStep
  intro s t hx h
  cases turnEvent_of_step hx h with
  | silent log => exact ⟨.inl log, fun hne => absurd log hne, fun hne => absurd log hne⟩
  | poll e turn polled _ response log =>
    exact ⟨.inr ⟨_, _, log⟩, fun _ => .inl turn, fun _ _ => ⟨polled, response⟩⟩
  | dr turn _ log =>
    exact ⟨.inr ⟨_, _, log⟩, fun _ => .inr (.inl turn), fun _ hhost => nomatch turn.symm.trans hhost⟩
  | am e turn _ log =>
    exact ⟨.inr ⟨_, _, log⟩, fun _ => .inr (.inr turn), fun _ hhost => nomatch turn.symm.trans hhost⟩

/-! ## RX_COMPLETE -/

theorem pollRow_eq_rxComplete_iff (w last : Status) (inam : Bool) :
    (pollRow w last inam).1 = some .rxComplete ↔ w = 0b11#2 ∧ last ≠ 0b11#2 := by
  revert w last inam
  decide

theorem drRow_eq_rxComplete_iff (am pending : Bool) : (drRow am pending).1 = .rxComplete ↔ am = true := by
  cases am <;> simp [drRow]

theorem amRow_ne_rxComplete (am pending : Bool) : amRow am pending ≠ some .rxComplete := by
  cases am <;> cases pending <;> decide

theorem amLvl_of_statusRead {s : State} (h : statusRead s = 0b11#2) : s.amLvl = true := by
  rw [← statusRead_bit_zero, h]
  rfl

/-- The two ways to raise RX_COMPLETE, both with address-match asserted: an IRQ.DR turn whose latch is set, or a polled
host's turn whose POLL samples 0b11 after a different sample. -/
theorem rxComplete_cases {x : Turn} {s t : State} {r : EventRecord} (hx : isReset x = false)
    (h : takeTurn x s = .next t) (hlog : t.evtLog = s.evtLog ++ [r]) (hr : r.event = .rxComplete) :
    s.amLvl = true ∧
      (x = .irqDr ∧ s.irqDrPend = true ∨
        x = .host ∧ s.config.disc = .polled ∧ t.respLog = s.respLog ++ [⟨s.now, .poll, 0x00#8⟩] ∧
          statusRead s = 0b11#2 ∧ s.pollLast ≠ 0b11#2) := by
  have event_eq {q : EventRecord} (log : t.evtLog = s.evtLog ++ [q]) : q.event = .rxComplete := by
    obtain ⟨rfl⟩ : [r] = [q] := List.append_cancel_left (hlog.symm.trans log)
    exact hr
  cases turnEvent_of_takeTurn hx h with
  | silent log => simp [log] at hlog
  | poll e turn polled row response log =>
    have he : e = .rxComplete := event_eq log
    obtain ⟨hsample, hlast⟩ := (pollRow_eq_rxComplete_iff _ _ _).1 (he ▸ row)
    exact ⟨amLvl_of_statusRead hsample, .inr ⟨turn, polled, response, hsample, hlast⟩⟩
  | dr turn latched log => exact ⟨(drRow_eq_rxComplete_iff _ _).1 (event_eq log), .inl ⟨turn, latched⟩⟩
  | am e turn row log =>
    have he : e = .rxComplete := event_eq log
    exact absurd (he ▸ row) (amRow_ne_rxComplete _ _)

/-! ## The address-match level along a run -/

theorem exec_command_amLvl {i : Instr} {s t : State} (hi : i.isCommand = true) (h : exec i s = .next t) :
    t.amLvl = s.amLvl := by
  obtain rfl | rfl | rfl | rfl | ⟨_, rfl⟩ | ⟨-, rfl⟩ | ⟨-, rfl⟩ | ⟨-, _, rfl⟩ | ⟨-, rfl⟩ | ⟨-, _, rfl⟩ :=
    exec_command_cases hi h <;> simp

/-- Only ENV_STATUS and a reset move the address-match level (R37). -/
theorem takeTurn_amLvl {x : Turn} {s t : State} (hx : isReset x = false) (hstatus : ∀ d a, x ≠ .envStatus d a)
    (h : takeTurn x s = .next t) : t.amLvl = s.amLvl := by
  refine takeTurn_elim h (fun s t => t.amLvl = s.amLvl) ?hold ?command ?refuse ?waitDone ?irqDr ?irqAm ?status ?carrier
    ?tick ?line ?reset
  case command => exact fun s ws n i hi _ t he _ => exec_command_amLvl (s := { s with host := ws, freeCount := n }) hi he
  case status => exact fun _ d a hx => absurd hx (hstatus d a)
  case reset =>
    rintro _ _ _ _ _ rfl
    cases hx
  case carrier | tick | hold | refuse => intros; rfl
  all_goals intros; simp

/-- A run without reset that ends with address-match asserted began with it asserted and never lowered it, or has an
ENV_STATUS that raises it with none after that lowers it. -/
theorem amLvl_raised_along_run {ts : List Turn} {s t : State} (hts : ∀ y ∈ ts, isReset y = false)
    (h : runTurns ts s = .next t) (ht : t.amLvl = true) :
    (s.amLvl = true ∧ ∀ d, Turn.envStatus d false ∉ ts) ∨
      ∃ before dr after, ts = before ++ [.envStatus dr true] ++ after ∧ ∀ d, Turn.envStatus d false ∉ after := by
  induction ts generalizing s with
  | nil =>
    cases h
    exact .inl ⟨ht, by simp⟩
  | cons x ts ih =>
    obtain ⟨-, u, hu, h⟩ := runTurns_cons_next h
    obtain ⟨hup, hfall⟩ | ⟨before, dr, after, rfl, hfall⟩ := ih (fun y hy => hts y (.tail _ hy)) h
    · by_cases hstatus : ∃ d a, x = .envStatus d a
      · obtain ⟨d, a, rfl⟩ := hstatus
        cases hu
        obtain ⟨-, rfl⟩ : s.config.hasAm = true ∧ a = true := Bool.and_eq_true_iff.1 hup
        exact .inr ⟨[], d, ts, rfl, hfall⟩
      · push Not at hstatus
        have hkeep := takeTurn_amLvl (hts x (.head _)) hstatus hu
        exact .inl ⟨hkeep.symm.trans hup, fun d => by simp [Ne.symm (hstatus d false), hfall d]⟩
    · exact .inr ⟨x :: before, dr, after, rfl, hfall⟩

/-! ## A reset with address-match asserted -/

/-- The host's turn that presents POLL at an open port in the polled discipline. -/
theorem hostTurn_poll {s : State} {ws : List Word} (hp : portOpen s = true) (hw : s.host = 0x70#8 :: ws)
    (hd : s.config.disc = .polled) : hostTurn s = .next (pollStep { s with host := ws }) := by
  rw [hostTurn_of_open hp hw, acceptWord_of_instr (i := .poll) (by decide)]
  exact exec_poll_of_polled (s := { s with host := ws }) hd

theorem events_pollStep (s : State) :
    events (pollStep s) = events s ++ (pollRow (statusRead s) s.pollLast s.pollInam).1.toList := by
  rw [pollStep_eq]
  simp [events, eventRecord, Function.comp_def]

/-- With no settle time, the reset's WAIT_DONE is enabled at once and opens the port. -/
theorem initDone_of_no_settle {s : State} (hr : s.refused = false) (hq : s.seq = .initWait) (ht : s.dlyTarget = 0) :
    takeTurn .waitDone s = .next (initDoneStep s) := by
  have he : waitDoneEnabled s = true := (waitDoneEnabled_iff s).2 ⟨hr, by simp [hq], by simp [ht]⟩
  rw [takeTurn, waitDoneTurn, if_pos he, waitComplete_initWait hq]

/-- R153's example: after a reset that draws address-match 1, a status 11 gives RX_COMPLETE with no address-match edge. -/
theorem rxComplete_without_edge {c : Config} (cd : Bool) (hwf : c.wf = true) (hd : c.disc = .polled)
    (hdr : c.hasDr = true) (ham : c.hasAm = true) (ht : c.tInit = 0) :
    ∃ t, runTurns [.waitDone, .envStatus true true, .host]
      { State.resetWith c false true cd with host := [0x70#8] } = .next t ∧ events t = [.rxComplete] := by
  rw [State.resetWith, if_pos hwf, runTurns_cons _ rfl (initDone_of_no_settle rfl rfl (by simp [ht])),
    runTurns_cons _ rfl rfl, runTurns_cons (x := .host) _ rfl (hostTurn_poll rfl rfl hd)]
  refine ⟨_, rfl, ?_⟩
  rw [events_pollStep]
  simp [envStatus_eq, initDoneStep, statusRead, events, hdr, ham, pollRow]

/-- Settles O39: `rxComplete_cases`, with the invariant excluding a latch in the polled discipline;
`amLvl_raised_along_run` up to the turn that raises the event; and the example of `rxComplete_without_edge`. -/
theorem rxCompleteNeedsAddressMatch : Obligations.RxCompleteNeedsAddressMatch := by
  unfold Obligations.RxCompleteNeedsAddressMatch
  refine ⟨fun s t x r hinv hx h hlog hr => ?turn, fun ts x s t u r hs hts h hu hlog hr => ?run,
    fun c cd hwf hd hdr ham ht => rxComplete_without_edge cd hwf hd hdr ham ht⟩
  case turn =>
    obtain ⟨ham, ⟨hdr, hlatch⟩ | ⟨hhost, hpolled, hpoll⟩⟩ := rxComplete_cases hx h hlog hr
    · have hirq := (hinv.latches (.inl hlatch)).1
      refine ⟨ham, fun _ => hdr, fun hd => ?_⟩
      cases hirq.symm.trans hd
    · refine ⟨ham, fun hd => ?_, fun _ => ⟨hhost, hpoll⟩⟩
      cases hpolled.symm.trans hd
  case run =>
    obtain ⟨ham, -⟩ := rxComplete_cases (hts x (by simp)) hu hlog hr
    obtain ⟨hup, -⟩ | hraise := amLvl_raised_along_run (fun y hy => hts y (by simp [hy])) h ham
    · cases hs.symm.trans hup
    · exact hraise

end Sys2Proof.Machine
end

section
/-! SUPPORT. The statements of spec/60_exceptions.md. Lemmas: a handler's turn with its latch set and with its latch clear
(R176), what a command or a turn does to the two latches, and the one way a turn writes the refusal mark (R170). -/

namespace Sys2Proof.Machine

/-! ## The interrupt latches -/

theorem irqDrTurn_of_clear {s : State} (h : s.irqDrPend = false) : irqDrTurn s = .next s := by
  simp [irqDrTurn, irqDrEnabled, h]

theorem irqAmTurn_of_clear {s : State} (h : s.irqAmPend = false) : irqAmTurn s = .next s := by
  simp [irqAmTurn, irqAmEnabled, h]

theorem exec_command_latches {i : Instr} {s t : State} (hi : i.isCommand = true) (h : exec i s = .next t) :
    t.irqDrPend = s.irqDrPend ∧ t.irqAmPend = s.irqAmPend := by
  obtain rfl | rfl | rfl | rfl | ⟨_, rfl⟩ | ⟨-, rfl⟩ | ⟨-, rfl⟩ | ⟨-, _, rfl⟩ | ⟨-, rfl⟩ | ⟨-, _, rfl⟩ :=
    exec_command_cases hi h <;> simp

/-- Across a turn other than its own handler's, a latch that is set stays set. -/
def LatchesHeld (x : Turn) (s t : State) : Prop :=
  (s.irqDrPend = true → x ≠ .irqDr → t.irqDrPend = true) ∧ (s.irqAmPend = true → x ≠ .irqAm → t.irqAmPend = true)

theorem LatchesHeld.of_eq {x : Turn} {s t : State} (h : t.irqDrPend = s.irqDrPend ∧ t.irqAmPend = s.irqAmPend) :
    LatchesHeld x s t := by
  obtain ⟨hdr, ham⟩ := h
  exact ⟨fun hs _ => hdr.trans hs, fun hs _ => ham.trans hs⟩

/-- R176, last sentence: a latch is cleared by its own handler step, and by a reset. -/
theorem takeTurn_latchesHeld {x : Turn} {s t : State} (hx : isReset x = false) (h : takeTurn x s = .next t) :
    LatchesHeld x s t := by
  refine takeTurn_elim h (LatchesHeld x) ?hold ?command ?refuse ?waitDone ?irqDr ?irqAm ?status ?carrier ?tick ?line ?reset
  case command =>
    exact fun s ws n i hi _ t he _ => .of_eq (exec_command_latches (s := { s with host := ws, freeCount := n }) hi he)
  case irqDr => exact fun s _ hown => ⟨fun _ hne => absurd hown hne, fun hs _ => by simpa using hs⟩
  case irqAm => exact fun s _ hown => ⟨fun hs _ => by simpa using hs, fun _ hne => absurd hown hne⟩
  case status =>
    exact fun s d a _ => ⟨fun hs _ => by simp [envStatus_irqDrPend, hs], fun hs _ => by simp [envStatus_irqAmPend, hs]⟩
  case reset =>
    rintro _ _ _ _ _ rfl
    cases hx
  case hold | refuse | carrier | tick => intros; exact .of_eq ⟨rfl, rfl⟩
  case waitDone | line => intros; exact .of_eq (by simp)

/-- Settles O11: the listed handler's turn is `exec` when its latch is set (`irqDrTurn_of_pending`), whose body keeps the
cleared latch and the other one, and a hold when it is clear; the other turns are those of `takeTurn_latchesHeld`. -/
theorem handlerStepsServeTheirLatches : Obligations.HandlerStepsServeTheirLatches := by
  unfold Obligations.HandlerStepsServeTheirLatches
  refine ⟨fun s ts hr => ?_, fun s t x hx h => takeTurn_latchesHeld hx h⟩
  rw [step_schedule s .irqDr ts hr, step_schedule s .irqAm ts hr]
  exact ⟨fun h => ⟨_, irqDrTurn_of_pending (s := { s with schedule := ts }) hr h, rfl, by simp, by simp⟩,
    fun h => irqDrTurn_of_clear (s := { s with schedule := ts }) h,
    fun h => ⟨_, irqAmTurn_of_pending (s := { s with schedule := ts }) hr h, rfl, by simp, by simp⟩,
    fun h => irqAmTurn_of_clear (s := { s with schedule := ts }) h⟩

/-! ## The refusal mark -/

/-- On a refused state a further refusal changes nothing (R170: the first reason is kept). -/
theorem raiseRefuse_of_refused {s : State} (h : s.refused = true) (r : RefuseReason) : raiseRefuse r s = s := by
  apply State.ext <;> simp [h]

/-- What a command or a turn from `s` to `t` does to the mark: nothing, or all it does, apart from the model's own lists,
is to raise a refusal with a reason. -/
inductive RefusalEffect (s t : State) : Prop where
  | kept (mark : t.refused = s.refused) (reason : t.refuseReason = s.refuseReason)
  | raised (r : RefuseReason) (ws : List Word) (ts : List Turn) (n : Nat) (some_reason : r ≠ .none)
      (effect : t = raiseRefuse r { s with host := ws, schedule := ts, freeCount := n })

/-- Of the commands only POLL in the interrupt-driven discipline raises a refusal (R171). -/
theorem exec_command_refusal {i : Instr} {s t : State} (hi : i.isCommand = true) (h : exec i s = .next t) :
    RefusalEffect s t := by
  obtain rfl | rfl | rfl | rfl | ⟨_, rfl⟩ | ⟨-, rfl⟩ | ⟨-, rfl⟩ | ⟨-, _, rfl⟩ | ⟨-, rfl⟩ | ⟨-, _, rfl⟩ :=
    exec_command_cases hi h
  case inr.inr.inr.inr.inr.inr.inl => exact .raised .discipline _ _ _ (by decide) rfl
  all_goals exact .kept (by simp) (by simp)

/-- The effect on the mark does not depend on the model's own lists. -/
theorem RefusalEffect.of_lists {s t : State} {ws : List Word} {ts : List Turn} {n : Nat}
    (h : RefusalEffect { s with host := ws, schedule := ts, freeCount := n } t) : RefusalEffect s t := by
  cases h with
  | kept mark reason => exact .kept mark reason
  | raised r ws ts n some_reason effect => exact .raised r ws ts n some_reason effect

theorem takeTurn_refusal {x : Turn} {s t : State} (hx : isReset x = false) (h : takeTurn x s = .next t) :
    RefusalEffect s t := by
  refine takeTurn_elim h RefusalEffect ?hold ?command ?refuse ?waitDone ?irqDr ?irqAm ?status ?carrier ?tick ?line ?reset
  case command =>
    exact fun s ws n i hi _ t he _ => .of_lists (exec_command_refusal (s := { s with host := ws, freeCount := n }) hi he)
  case refuse => exact fun s ws n r _ hr _ => .raised r ws s.schedule n hr rfl
  case reset =>
    rintro _ _ _ _ _ rfl
    cases hx
  case hold | status | carrier | tick => intros; exact .kept rfl rfl
  case waitDone | irqDr | irqAm | line => intros; exact .kept (by simp) (by simp)

theorem step_refusal {s t : State} (hx : isReset (nextTurn s).1 = false) (h : step s = .next t) : RefusalEffect s t := by
  obtain ⟨-, hturn⟩ := step_next h
  rw [nextTurn_snd] at hturn
  exact .of_lists (ws := s.host) (takeTurn_refusal hx hturn)

/-- Settles O12: raising splits on the mark; the step of a refused state is `step_of_refused`; a step was taken from a
state that is not refused, so one that ends refused raised the mark, and one that does not kept the reason. -/
theorem refusalMarksAndStopsTheRun : Obligations.RefusalMarksAndStopsTheRun := by
  unfold Obligations.RefusalMarksAndStopsTheRun
  refine ⟨fun r s => ⟨fun h => raiseRefuse_of_not_refused h r, fun h => raiseRefuse_of_refused h r⟩,
    fun s => step_of_refused, fun s t hx h ht => ?refused, fun s t hx h ht => ?live⟩
  case refused =>
    obtain ⟨hr, -⟩ := step_next h
    cases step_refusal hx h with
    | kept mark => simp [mark, hr] at ht
    | raised r ws ts n some_reason effect =>
      rw [raiseRefuse_of_not_refused (by exact hr)] at effect
      subst effect
      exact ⟨some_reason, rfl⟩
  case live =>
    cases step_refusal hx h with
    | kept _ reason => exact reason
    | raised r ws ts n _ effect => simp [effect] at ht

end Sys2Proof.Machine
end

section
/-! SUPPORT. The statements of spec/70_reset_and_hazards.md. Lemmas: each handler's turn with its latch set as one record
update, the events of an address-match edge that its handler serves, and the two handlers in either order after both status
lines rise at once (R213). -/

namespace Sys2Proof.Machine

/-! ## The handlers' turns as record updates -/

/-- R146 at its turn: with the latch set, `IRQ.DR` classifies by the address-match level it reads there. -/
theorem takeTurn_irqDr_of_pending {s : State} (hr : s.refused = false) (h : s.irqDrPend = true) :
    takeTurn .irqDr s = .next { s with
      irqDrPend := false
      pending := (drRow s.amLvl s.pending).2
      evtLog := s.evtLog ++ [eventRecord s .handler (drRow s.amLvl s.pending).1] } :=
  (irqDrTurn_of_pending hr h).trans (dataReadyHandlerClassifiesByAddressMatch s)

/-- R147 at its turn: with the latch set, `IRQ.AM` classifies by the level it reads there and by `PENDING`. -/
theorem takeTurn_irqAm_of_pending {s : State} (hr : s.refused = false) (h : s.irqAmPend = true) :
    takeTurn .irqAm s = .next { s with
      irqAmPend := false
      pending := false
      evtLog := s.evtLog ++ (amRow s.amLvl s.pending).toList.map (eventRecord s .handler) } :=
  (irqAmTurn_of_pending hr h).trans (addressMatchHandlerClassifiesByPending s)

/-! ## Edges while interrupts are attached -/

/-- The run is live, and the edges of both status lines set latches (R175). -/
structure InterruptsAttached (s : State) : Prop where
  live : s.refused = false
  initDone : s.initDone = true
  interruptDriven : s.config.disc = .interruptDriven
  hasDr : s.config.hasDr = true
  hasAm : s.config.hasAm = true

/-- An address-match edge and its handler's turn raise the event of R149's row for the new level and `PENDING`. -/
theorem events_of_addressMatch_edge {s : State} (hs : InterruptsAttached s) (dr : Bool) {am : Bool} (edge : s.amLvl ≠ am) :
    ∃ u, runTurns [.envStatus dr am, .irqAm] s = .next u ∧ events u = events s ++ (amRow am s.pending).toList := by
  have latched : (envStatus dr am s).irqAmPend = true := by
    rw [envStatus_irqAmPend, if_pos ⟨hs.interruptDriven, hs.initDone, hs.hasAm, edge⟩]
  have level : (envStatus dr am s).amLvl = am := by simp [envStatus_eq, hs.hasAm]
  have live : (envStatus dr am s).refused = false := hs.live
  rw [runTurns_cons _ hs.live rfl, runTurns_cons _ live (takeTurn_irqAm_of_pending live latched)]
  refine ⟨_, rfl, ?_⟩
  simp [events, eventRecord, Function.comp_def, level]

/-! ## Simultaneous edges (R213) -/

/-- `s` once both status lines have risen in one step: both levels 1, both latches set. -/
def bothRisen (s : State) : State := { s with drLvl := true, amLvl := true, irqDrPend := true, irqAmPend := true }

theorem envStatus_eq_bothRisen {s : State} (hs : InterruptsAttached s) (hdr : s.drLvl = false) (ham : s.amLvl = false) :
    envStatus true true s = bothRisen s := by
  simp [envStatus_eq, bothRisen, hs.interruptDriven, hs.initDone, hs.hasDr, hs.hasAm, hdr, ham]

/-- `bothRisen s` once both handlers have run: `PENDING` and the events are what their order decides. -/
def bothServed (pending : Bool) (es : List Event) (s : State) : State :=
  { bothRisen s with
    irqDrPend := false
    irqAmPend := false
    pending := pending
    evtLog := s.evtLog ++ es.map (eventRecord s .handler) }

@[simp] theorem bothServed_amLvl (pending : Bool) (es : List Event) (s : State) : (bothServed pending es s).amLvl = true := rfl

@[simp] theorem bothServed_pending (pending : Bool) (es : List Event) (s : State) :
    (bothServed pending es s).pending = pending := rfl

@[simp] theorem events_bothServed (pending : Bool) (es : List Event) (s : State) :
    events (bothServed pending es s) = events s ++ es := by
  simp [events, bothServed, eventRecord, Function.comp_def]

theorem InterruptsAttached.bothServed {s : State} (hs : InterruptsAttached s) (pending : Bool) (es : List Event) :
    InterruptsAttached (bothServed pending es s) :=
  ⟨hs.live, hs.initDone, hs.interruptDriven, hs.hasDr, hs.hasAm⟩

/-- Data-ready first: `IRQ.DR` sets `PENDING` and `IRQ.AM`, after it, clears it. -/
theorem runTurns_irqDr_irqAm_bothRisen {s : State} (hr : s.refused = false) :
    runTurns [.irqDr, .irqAm] (bothRisen s) = .next (bothServed false [.rxComplete, .addrMatch] s) := by
  rw [runTurns_cons _ (by exact hr) (takeTurn_irqDr_of_pending (by exact hr) (by rfl)),
    runTurns_cons _ (by exact hr) (takeTurn_irqAm_of_pending (by exact hr) (by rfl))]
  simp [runTurns, bothRisen, bothServed, drRow, amRow, eventRecord]

/-- Address-match first: the `PENDING` that `IRQ.DR` sets outlives both handlers. -/
theorem runTurns_irqAm_irqDr_bothRisen {s : State} (hr : s.refused = false) :
    runTurns [.irqAm, .irqDr] (bothRisen s) = .next (bothServed true [.addrMatch, .rxComplete] s) := by
  rw [runTurns_cons _ (by exact hr) (takeTurn_irqAm_of_pending (by exact hr) (by rfl)),
    runTurns_cons _ (by exact hr) (takeTurn_irqDr_of_pending (by exact hr) (by rfl))]
  simp [runTurns, bothRisen, bothServed, drRow, amRow, eventRecord]

/-- Settles O42: the status step leads to `bothRisen`, the two orders of the handlers to `bothServed` with `PENDING` 0 and
1, and the later fall raises what `events_of_addressMatch_edge` reads off that `PENDING`. -/
theorem simultaneousEdgesDependOnTheOrder : Obligations.SimultaneousEdgesDependOnTheOrder := by
  unfold Obligations.SimultaneousEdgesDependOnTheOrder
  intro s hr hinit hirq hhasDr hhasAm ham hdr
  have hs : InterruptsAttached s := ⟨hr, hinit, hirq, hhasDr, hhasAm⟩
  have rise (ts : List Turn) : runTurns (.envStatus true true :: ts) s = runTurns ts (bothRisen s) :=
    runTurns_cons ts hr (congrArg _ (envStatus_eq_bothRisen hs hdr ham))
  have fall (pending : Bool) (es : List Event) :=
    events_of_addressMatch_edge (hs.bothServed pending es) false (am := false) (by simp)
  refine ⟨⟨_, rise [], rfl, rfl⟩, ?drFirst, ?amFirst⟩
  case drFirst =>
    obtain ⟨u, hu, hevents⟩ := fall false [.rxComplete, .addrMatch]
    exact ⟨_, u, (rise _).trans (runTurns_irqDr_irqAm_bothRisen hr), rfl, events_bothServed .., hu,
      by simpa [amRow] using hevents⟩
  case amFirst =>
    obtain ⟨u, hu, hevents⟩ := fall true [.addrMatch, .rxComplete]
    exact ⟨_, u, (rise _).trans (runTurns_irqAm_irqDr_bothRisen hr), rfl, events_bothServed .., hu,
      by simpa [amRow] using hevents⟩

end Sys2Proof.Machine
end

section
/-! SUPPORT. The round trip of spec/30_encoding.md (R70 to R84). Lemma: the commands are the instructions that have a command
word; the rest is `decodeCommand_eq_instr_iff`. -/

namespace Sys2Proof

/-- R71 and R75: an instruction is a command exactly when its encoding is a command word. -/
theorem isCommand_iff_encode (i : Instr) : i.isCommand = true ↔ ∃ w, encode i = .command w := by
  cases i with
  | irqDr => exact ⟨nofun, nofun⟩
  | irqAm => exact ⟨nofun, nofun⟩
  | _ => exact ⟨fun _ => ⟨_, rfl⟩, fun _ => rfl⟩

/-- Settles O6: a command has a command word, and a word decodes to the instruction it encodes. -/
theorem decodeOfEncodedCommand : Obligations.DecodeOfEncodedCommand := by
  unfold Obligations.DecodeOfEncodedCommand
  intro i hi
  obtain ⟨w, hw⟩ := (isCommand_iff_encode i).1 hi
  exact ⟨w, hw, (decodeCommand_eq_instr_iff w i).2 hw⟩

/-- Settles O7: an instruction that a word decodes to is encoded as that word, so it has one and is a command. -/
theorem encodeOfDecodedWord : Obligations.EncodeOfDecodedWord := by
  unfold Obligations.EncodeOfDecodedWord
  intro w i h
  have hw : encode i = .command w := (decodeCommand_eq_instr_iff w i).1 h
  exact ⟨(isCommand_iff_encode i).2 ⟨w, hw⟩, hw⟩

/-- Settles O5: the decoder evaluated on the eight words. -/
theorem decodesWordsOfTheSpec : Obligations.DecodesWordsOfTheSpec := by
  unfold Obligations.DecodesWordsOfTheSpec
  decide

/-- Settles O60: a command's line loads the word of O6; the four texts are parsed by evaluation. -/
theorem programLinesAreOneWordAndOneTurn : Obligations.ProgramLinesAreOneWordAndOneTurn := by
  unfold Obligations.ProgramLinesAreOneWordAndOneTurn
  refine ⟨fun i hi => ?word, by decide, by decide, by decide, by decide⟩
  obtain ⟨w, hw, hdec⟩ := decodeOfEncodedCommand i hi
  exact ⟨w, by simp [Machine.lineWords, hw], hdec, rfl⟩

end Sys2Proof
end

section
/-! SUPPORT. What a turn does to the configuration, the control lines and the logs (spec/10_state.md R22, R31 to R34,
70_reset_and_hazards.md R203). Lemmas: a turn that is no ENV_LINE only drives the lines, with a record of each write, and
every log is extended by records stamped with `NOW`. -/

namespace Sys2Proof.Machine

/-- A step is its turn, taken from a state that differs from the step's in the model's own lists only. -/
theorem turn_of_step {s t : State} (h : step s = .next t) :
    ∃ ts n, takeTurn (nextTurn s).1 { s with schedule := ts, freeCount := n } = .next t := by
  obtain ⟨-, hturn⟩ := step_next h
  rw [nextTurn_snd] at hturn
  exact ⟨_, _, hturn⟩

/-- Of the turns only a new reset counts as one. -/
theorem eq_reset_of_isReset {x : Turn} (h : isReset x = true) : ∃ c dr am cd, x = .reset c dr am cd := by
  cases x with
  | reset c dr am cd => exact ⟨c, dr, am, cd, rfl⟩
  | _ => cases h

/-! ## The configuration -/

theorem exec_command_config {i : Instr} {s t : State} (hi : i.isCommand = true) (h : exec i s = .next t) :
    t.config = s.config := by
  obtain rfl | rfl | rfl | rfl | ⟨_, rfl⟩ | ⟨-, rfl⟩ | ⟨-, rfl⟩ | ⟨-, _, rfl⟩ | ⟨-, rfl⟩ | ⟨-, _, rfl⟩ :=
    exec_command_cases hi h <;> simp

theorem takeTurn_config {x : Turn} {s t : State} (hx : isReset x = false) (h : takeTurn x s = .next t) :
    t.config = s.config := by
  refine takeTurn_elim h (fun s t => t.config = s.config) ?hold ?command ?refuse ?waitDone ?irqDr ?irqAm ?status ?carrier
    ?tick ?line ?reset
  case command => exact fun s ws n i hi _ t he _ => exec_command_config (s := { s with host := ws, freeCount := n }) hi he
  case reset =>
    rintro _ _ _ _ _ rfl
    cases hx
  case hold | refuse | status | carrier | tick => intros; rfl
  all_goals intros; simp

/-! ## The control lines and their trace -/

/-- From `s` to `t` the control lines were only driven: `LINE_TRACE` grew by records of present lines at `NOW`, and each
line that changed has a record of its new level among them (R31). -/
def LinesDriven (s t : State) : Prop :=
  ∃ new, t.lineTrace = s.lineTrace ++ new ∧ (∀ r ∈ new, r.time = s.now ∧ s.config.hasLine r.line = true) ∧
    ∀ l, lineReg l t ≠ lineReg l s → ⟨s.now, l, lineReg l t⟩ ∈ new

theorem LinesDriven.of_eq {s t : State} (hlines : ∀ l, lineReg l t = lineReg l s) (htrace : t.lineTrace = s.lineTrace) :
    LinesDriven s t :=
  ⟨[], by simp [htrace], by simp, fun l hne => absurd (hlines l) hne⟩

theorem LinesDriven.trans {s t u : State} (hst : LinesDriven s t) (htu : LinesDriven t u)
    (hnow : t.now = s.now := by simp) (hconfig : t.config = s.config := by simp) : LinesDriven s u := by
  obtain ⟨a, ha, hstamp, htrace⟩ := hst
  obtain ⟨b, hb, hstamp', htrace'⟩ := htu
  rw [hnow, hconfig] at hstamp'
  rw [hnow] at htrace'
  refine ⟨a ++ b, by rw [hb, ha, List.append_assoc], ?_, fun l hne => List.mem_append.2 ?_⟩
  · exact fun r hr => (List.mem_append.1 hr).elim (hstamp r) (hstamp' r)
  · by_cases h : lineReg l u = lineReg l t
    · exact .inl (h ▸ htrace l (h ▸ hne))
    · exact .inr (htrace' l h)

theorem linesDriven_lineWrite (l : Line) (v : Bool) (s : State) : LinesDriven s (lineWrite l v s) := by
  cases h : s.config.hasLine l with
  | false => exact .of_eq (by simp [lineWrite_of_absent h]) (by simp [lineWrite_of_absent h])
  | true =>
    refine ⟨[⟨s.now, l, v⟩], by simp [h], by simp [h], fun k hne => ?_⟩
    rw [lineReg_lineWrite] at hne ⊢
    by_cases hk : k = l
    · simp [hk, h]
    · simp [hk] at hne

theorem linesDriven_lineWrites (ws : List (Line × Bool)) (s : State) : LinesDriven s (lineWrites ws s) := by
  induction ws generalizing s with
  | nil => exact .of_eq (fun _ => rfl) rfl
  | cons w ws ih => exact (linesDriven_lineWrite w.1 w.2 s).trans (ih _)

/-- Line writes followed by anything that touches no line and no record of one. -/
theorem LinesDriven.of_lineWrites {ws : List (Line × Bool)} {s t : State}
    (hlines : ∀ l, lineReg l t = lineReg l (lineWrites ws s)) (htrace : t.lineTrace = (lineWrites ws s).lineTrace) :
    LinesDriven s t :=
  (linesDriven_lineWrites ws s).trans (.of_eq hlines htrace) (by rw [lineWrites_eq]) (by rw [lineWrites_eq])

theorem linesDriven_txStart (nm : NextMode) (m : Mode) (s : State) : LinesDriven s (txStart nm m s) := by
  cases nm with
  | transmit => rw [txStart_transmit]; exact .of_lineWrites (by simp) rfl
  | standby => rw [txStart_standby]; exact .of_lineWrites (by simp) rfl
  | receive => rw [txStart_receive]; exact .of_lineWrites (by simp) rfl

theorem linesDriven_txFromPowerDown (nm : NextMode) (s : State) : LinesDriven s (txFromPowerDown nm s) := by
  have powered : LinesDriven s (lineWrite .pwr true (lineWrite .stby true s)) :=
    linesDriven_lineWrites [(.stby, true), (.pwr, true)] s
  by_cases hnm : nm = .transmit
  · rw [txFromPowerDown, if_pos hnm]
    exact powered.trans (linesDriven_txStart nm .standby _)
  · rw [txFromPowerDown, if_neg hnm]
    exact powered.trans (.of_eq (fun l => by cases l <;> rfl) rfl)

theorem linesDriven_waitComplete (s : State) : LinesDriven s (waitComplete s) := by
  cases h : s.seq with
  | idle => exact .of_eq (by simp [waitComplete, h]) (by simp [waitComplete, h])
  | initWait => rw [waitComplete_initWait h]; exact .of_eq (fun l => by cases l <;> rfl) rfl
  | txPwrupWait => rw [waitComplete_txPwrupWait h]; exact linesDriven_txStart ..
  | txRxWait => rw [waitComplete_txRxWait h]; exact .of_lineWrites (by simp) rfl
  | txSbWait => rw [waitComplete_txSbWait h]; exact .of_lineWrites (by simp) rfl

theorem exec_command_linesDriven {i : Instr} {s t : State} (hi : i.isCommand = true) (h : exec i s = .next t) :
    LinesDriven s t := by
  obtain rfl | rfl | rfl | rfl | ⟨_, rfl⟩ | ⟨-, rfl⟩ | ⟨-, rfl⟩ | ⟨-, nm, rfl⟩ | ⟨-, rfl⟩ | ⟨-, nm, rfl⟩ :=
    exec_command_cases hi h
  · exact .of_lineWrites (ws := [(.pwr, false)]) (by simp [lineWrites]) rfl
  · exact .of_lineWrites (ws := [(.stby, true), (.pwr, true)]) (by simp [lineWrites]) rfl
  · exact .of_lineWrites (ws := [(.txen, false), (.stby, false), (.pwr, true)]) (by simp [lineWrites]) rfl
  case inr.inr.inr.inr.inr.inr.inr.inl => exact linesDriven_txFromPowerDown nm s
  case inr.inr.inr.inr.inr.inr.inr.inr.inr => exact linesDriven_txStart nm (mode s) s
  all_goals exact .of_eq (fun l => by cases l <;> simp [lineReg]) (by simp)

/-- A turn drives the control lines, or is an ENV_LINE. -/
theorem takeTurn_lines {x : Turn} {s t : State} (hx : isReset x = false) (h : takeTurn x s = .next t) :
    LinesDriven s t ∨ ∃ l v, x = .envLine l v ∧ t = envLine l v s := by
  refine takeTurn_elim h (fun s t => LinesDriven s t ∨ ∃ l v, x = .envLine l v ∧ t = envLine l v s) ?hold ?command ?refuse
    ?waitDone ?irqDr ?irqAm ?status ?carrier ?tick ?line ?reset
  case command =>
    intro s ws n i hi _ t he _
    have : LinesDriven s { s with host := ws, freeCount := n } := .of_eq (fun l => by cases l <;> rfl) rfl
    exact .inl (this.trans (exec_command_linesDriven hi he))
  case waitDone => exact fun s _ _ => .inl (linesDriven_waitComplete s)
  case line => exact fun s l v hx => .inr ⟨l, v, hx, rfl⟩
  case reset =>
    rintro _ _ _ _ _ rfl
    cases hx
  all_goals intros; exact .inl (.of_eq (fun l => by cases l <;> simp [lineReg, envCd, envTick]) (by simp [envCd, envTick]))

/-- Settles O57: a line driven from inside has its record among the new ones, and ENV_LINE changes its own line only. -/
theorem lineChangesAreTraced : Obligations.LineChangesAreTraced := by
  unfold Obligations.LineChangesAreTraced
  intro s t x l hx h hne
  obtain ⟨new, htrace, -, traced⟩ | ⟨k, v, rfl, rfl⟩ := takeTurn_lines hx h
  · exact .inr ⟨_, new, htrace, traced l hne, rfl⟩
  · left
    cases hk : s.config.hasLine k with
    | false => exact absurd (by rw [envLine_of_absent hk]) hne
    | true =>
      rw [envLine_of_present hk, lineReg_setLine] at hne
      obtain rfl : l = k := by
        by_contra hlk
        simp [hlk] at hne
      exact ⟨v, rfl, hk⟩

/-- Settles O58: the records of driven lines are of present ones, and ENV_LINE writes an unused line as little. -/
theorem unusedLinesAreNeverWritten : Obligations.UnusedLinesAreNeverWritten := by
  unfold Obligations.UnusedLinesAreNeverWritten
  intro s t x l hx h hline
  have unused {k : Line} (hk : s.config.hasLine k = true) : k ≠ l := by
    rintro rfl
    simp [hline] at hk
  obtain ⟨new, htrace, stamped, traced⟩ | ⟨k, v, rfl, rfl⟩ := takeTurn_lines hx h
  · refine ⟨?_, new, htrace, fun r hr => unused (stamped r hr).2⟩
    by_contra hne
    exact unused (stamped _ (traced l hne)).2 rfl
  · refine ⟨?_, [], by simp, by simp⟩
    cases hk : s.config.hasLine k with
    | false => rw [envLine_of_absent hk]
    | true => rw [envLine_of_present hk, lineReg_setLine, if_neg (unused hk).symm]

/-! ## The logs -/

theorem txStart_respLog (nm : NextMode) (m : Mode) (s : State) :
    (txStart nm m s).respLog = s.respLog ++ (if nm = .transmit then [⟨s.now, .tx, 1⟩] else []) := by
  cases nm <;> simp [txStart_transmit, txStart_standby, txStart_receive, lineWrites_eq]

theorem txFromPowerDown_respLog (nm : NextMode) (s : State) :
    (txFromPowerDown nm s).respLog = s.respLog ++ (if nm = .transmit then [⟨s.now, .tx, 1⟩] else []) := by
  by_cases hnm : nm = .transmit <;> simp [txFromPowerDown, hnm, txStart_respLog]

/-- From `s` to `t` at most one response was given, at `NOW` (R32). -/
def Responded (s t : State) : Prop := t.respLog = s.respLog ∨ ∃ op v, t.respLog = s.respLog ++ [⟨s.now, op, v⟩]

theorem Responded.of_respond {r s : State} (op : CommandOp) (v : Word) (hlog : r.respLog = s.respLog := by simp)
    (hnow : r.now = s.now := by simp) : Responded s (respond op v r) :=
  .inr ⟨op, v, by rw [respond_respLog, hlog, hnow]⟩

theorem Responded.of_ite {s t : State} {p : Prop} [Decidable p] {op : CommandOp} {v : Word}
    (h : t.respLog = s.respLog ++ if p then [⟨s.now, op, v⟩] else []) : Responded s t := by
  by_cases hp : p
  · exact .inr ⟨op, v, by rw [h, if_pos hp]⟩
  · exact .inl (by rw [h, if_neg hp, List.append_nil])

theorem responded_waitComplete (s : State) : Responded s (waitComplete s) := by
  cases h : s.seq with
  | idle => exact .inl (by simp [waitComplete, h])
  | initWait => rw [waitComplete_initWait h]; exact .inl rfl
  | txPwrupWait => rw [waitComplete_txPwrupWait h]; exact .of_ite (txStart_respLog ..)
  | txRxWait => rw [waitComplete_txRxWait h]; exact .of_respond _ _ (by simp [lineWrites_eq]) (by simp [lineWrites_eq])
  | txSbWait => rw [waitComplete_txSbWait h]; exact .of_respond _ _ (by simp [lineWrites_eq]) (by simp [lineWrites_eq])

theorem exec_command_responded {i : Instr} {s t : State} (hi : i.isCommand = true) (h : exec i s = .next t) :
    Responded s t := by
  obtain rfl | rfl | rfl | rfl | ⟨_, rfl⟩ | ⟨-, rfl⟩ | ⟨-, rfl⟩ | ⟨-, nm, rfl⟩ | ⟨-, rfl⟩ | ⟨-, nm, rfl⟩ :=
    exec_command_cases hi h
  case inr.inr.inr.inr.inr.inl => exact .inr ⟨.poll, 0, by rw [pollStep_eq]; rfl⟩
  case inr.inr.inr.inr.inr.inr.inl => exact .inl rfl
  case inr.inr.inr.inr.inr.inr.inr.inl => exact .of_ite (txFromPowerDown_respLog nm s)
  case inr.inr.inr.inr.inr.inr.inr.inr.inr => exact .of_ite (txStart_respLog nm (mode s) s)
  all_goals exact .of_respond ..

theorem takeTurn_responded {x : Turn} {s t : State} (hx : isReset x = false) (h : takeTurn x s = .next t) :
    Responded s t := by
  refine takeTurn_elim h Responded ?hold ?command ?refuse ?waitDone ?irqDr ?irqAm ?status ?carrier ?tick ?line ?reset
  case command => exact fun s ws n i hi _ t he _ => exec_command_responded (s := { s with host := ws, freeCount := n }) hi he
  case waitDone => exact fun s _ _ => responded_waitComplete s
  case reset =>
    rintro _ _ _ _ _ rfl
    cases hx
  case hold | refuse | status | carrier | tick => intros; exact .inl rfl
  all_goals intros; exact .inl (by simp)

theorem exec_command_now {i : Instr} {s t : State} (hi : i.isCommand = true) (h : exec i s = .next t) : t.now = s.now := by
  obtain rfl | rfl | rfl | rfl | ⟨_, rfl⟩ | ⟨-, rfl⟩ | ⟨-, rfl⟩ | ⟨-, _, rfl⟩ | ⟨-, rfl⟩ | ⟨-, _, rfl⟩ :=
    exec_command_cases hi h <;> simp

/-- R34: time never runs backwards. -/
theorem takeTurn_now {x : Turn} {s t : State} (hx : isReset x = false) (h : takeTurn x s = .next t) : s.now ≤ t.now := by
  refine takeTurn_elim h (fun s t => s.now ≤ t.now) ?hold ?command ?refuse ?waitDone ?irqDr ?irqAm ?status ?carrier ?tick
    ?line ?reset
  case command =>
    exact fun s ws n i hi _ t he _ => (exec_command_now (s := { s with host := ws, freeCount := n }) hi he).ge
  case tick => exact fun s _ => Nat.le_succ s.now
  case reset =>
    rintro _ _ _ _ _ rfl
    cases hx
  case hold | refuse | status | carrier => intros; exact le_rfl
  all_goals intros; simp

/-- What a turn without reset does to the logs: each is extended by records stamped with `NOW`, which does not run back. -/
structure LogsExtended (s t : State) : Prop where
  lineTrace : ∃ new, t.lineTrace = s.lineTrace ++ new ∧ ∀ r ∈ new, r.time = s.now
  respLog : ∃ new, t.respLog = s.respLog ++ new ∧ ∀ r ∈ new, r.time = s.now
  evtLog : ∃ new, t.evtLog = s.evtLog ++ new ∧ ∀ r ∈ new, r.time = s.now
  now : s.now ≤ t.now

theorem takeTurn_logsExtended {x : Turn} {s t : State} (hx : isReset x = false) (h : takeTurn x s = .next t) :
    LogsExtended s t := by
  refine ⟨?lineTrace, ?respLog, ?evtLog, takeTurn_now hx h⟩
  case lineTrace =>
    obtain ⟨new, htrace, stamped, -⟩ | ⟨l, v, -, rfl⟩ := takeTurn_lines hx h
    · exact ⟨new, htrace, fun r hr => (stamped r hr).1⟩
    · exact ⟨[], by simp⟩
  case respLog =>
    obtain hresp | ⟨op, v, hresp⟩ := takeTurn_responded hx h
    · exact ⟨[], by simp [hresp]⟩
    · exact ⟨_, hresp, by simp⟩
  case evtLog =>
    cases turnEvent_of_takeTurn hx h with
    | silent log => exact ⟨[], by simp [log]⟩
    | poll _ _ _ _ _ log | dr _ _ log | am _ _ _ log => exact ⟨_, log, by simp [eventRecord]⟩

theorem step_logsExtended {s t : State} (hx : isReset (nextTurn s).1 = false) (h : step s = .next t) : LogsExtended s t := by
  obtain ⟨ts, n, hturn⟩ := turn_of_step h
  obtain ⟨hl, hr, he, hn⟩ := takeTurn_logsExtended hx hturn
  exact ⟨hl, hr, he, hn⟩

/-- Settles O55: what is extended has the old log as a prefix. -/
theorem logsOnlyGrow : Obligations.LogsOnlyGrow := by
  unfold Obligations.LogsOnlyGrow
  intro s t hx h
  obtain ⟨⟨l, hl, -⟩, ⟨r, hr, -⟩, ⟨e, he, -⟩, -⟩ := step_logsExtended hx h
  exact ⟨⟨l, hl.symm⟩, ⟨r, hr.symm⟩, ⟨e, he.symm⟩⟩

/-- A log's times are in order and none is later than `now` (R34). -/
def InOrder {α : Type} (time : α → Nat) (now : Nat) (log : List α) : Prop :=
  (log.map time).Pairwise (· ≤ ·) ∧ ∀ r ∈ log, time r ≤ now

/-- Appending records stamped with the present keeps a log in order, now and later. -/
theorem InOrder.append {α : Type} {time : α → Nat} {now now' : Nat} {log log' : List α} (h : InOrder time now log)
    (hnew : ∃ new, log' = log ++ new ∧ ∀ r ∈ new, time r = now) (hnow : now ≤ now') : InOrder time now' log' := by
  obtain ⟨hsorted, hpast⟩ := h
  obtain ⟨new, rfl, hstamp⟩ := hnew
  refine ⟨?_, fun r hr => (List.mem_append.1 hr).elim (fun h => (hpast r h).trans hnow)
    fun h => (hstamp r h).le.trans hnow⟩
  have hpresent : new.map time = List.replicate new.length now :=
    List.eq_replicate_iff.2 ⟨by simp, by simpa using hstamp⟩
  rw [List.map_append, hpresent, List.pairwise_append]
  refine ⟨hsorted, by simp [List.pairwise_replicate], fun a ha b hb => ?_⟩
  obtain ⟨r, hr, rfl⟩ := List.mem_map.1 ha
  exact (List.eq_of_mem_replicate hb).symm ▸ hpast r hr

theorem logTimes_iff (s : State) :
    LogTimes s ↔ InOrder LineRecord.time s.now s.lineTrace ∧ InOrder RespRecord.time s.now s.respLog ∧
      InOrder EventRecord.time s.now s.evtLog :=
  ⟨fun ⟨hl, hr, he⟩ => ⟨hl, hr, he⟩, fun ⟨hl, hr, he⟩ => ⟨hl, hr, he⟩⟩

theorem LogTimes.extend {s t : State} (h : LogTimes s) (hst : LogsExtended s t) : LogTimes t := by
  rw [logTimes_iff] at h ⊢
  obtain ⟨hl, hr, he⟩ := h
  exact ⟨hl.append hst.lineTrace hst.now, hr.append hst.respLog hst.now, he.append hst.evtLog hst.now⟩

/-! ## A new reset step -/

/-- Settles O49: for a well-formed configuration `resetStep_of_wf`, for an ill-formed one both sides are the refused
state. -/
theorem resetProcedureGivesTheResetTable : Obligations.ResetProcedureGivesTheResetTable := by
  unfold Obligations.ResetProcedureGivesTheResetTable
  intro c dr am cd
  cases h : c.wf with
  | true => exact resetStep_of_wf h dr am cd
  | false => simp [resetStep_of_not_wf h, State.resetWith, h]

theorem resetTurn_eq (c : Config) (dr am cd : Bool) (s : State) :
    resetTurn c dr am cd s =
      { State.resetWith c dr am cd with host := s.host, schedule := s.schedule, freeCount := s.freeCount } := by
  rw [resetTurn, resetProcedureGivesTheResetTable c dr am cd]

/-- Settles O52: the reset turn is the procedure of O49, and `takeTurn_config` is the frame of every other. -/
theorem onlyResetChangesTheConfiguration : Obligations.OnlyResetChangesTheConfiguration := by
  unfold Obligations.OnlyResetChangesTheConfiguration
  refine ⟨fun s c dr am cd ts hr => ?_, fun s t hx h => ?_⟩
  · rw [step_schedule s _ ts hr]
    exact congrArg _ (resetTurn_eq c dr am cd { s with schedule := ts })
  · obtain ⟨ts, n, hturn⟩ := turn_of_step h
    exact (takeTurn_config hx hturn :)

/-- Every record of the reset trace is stamped 0, which is the time after a reset. -/
theorem resetTrace_time {c : Config} : ∀ r ∈ State.resetTrace c, r.time = 0 := by
  intro r hr
  have hr := (List.mem_filter.1 hr).1
  simp only [List.mem_cons, List.not_mem_nil, or_false] at hr
  obtain rfl | rfl | rfl | rfl := hr <;> rfl

theorem resetWith_logTimes (c : Config) (dr am cd : Bool) : LogTimes (State.resetWith c dr am cd) := by
  have empty {α : Type} (time : α → Nat) : InOrder time 0 [] := ⟨.nil, by simp⟩
  rw [logTimes_iff, State.resetWith]
  split
  · exact ⟨(empty _).append ⟨_, rfl, resetTrace_time⟩ le_rfl, empty _, empty _⟩
  · exact ⟨empty _, empty _, empty _⟩

/-- Settles O56: a reset starts the logs at time 0, and every other step extends them. -/
theorem stepKeepsLogTimes : Obligations.StepKeepsLogTimes := by
  unfold Obligations.StepKeepsLogTimes
  intro s t hs h
  cases hx : isReset (nextTurn s).1 with
  | false => exact hs.extend (step_logsExtended hx h)
  | true =>
    obtain ⟨ts, n, hturn⟩ := turn_of_step h
    obtain ⟨c, dr, am, cd, hreset⟩ := eq_reset_of_isReset hx
    rw [hreset] at hturn
    cases hturn
    rw [resetTurn_eq]
    obtain ⟨hl, hr, he⟩ := resetWith_logTimes c dr am cd
    exact ⟨hl, hr, he⟩

end Sys2Proof.Machine
end

section
/-! SUPPORT. The block's invariant (spec/10_state.md R22 to R30, R37, R38; 40_mode_sequencer.md R101, R111; 60_exceptions.md
R175). It falls into four parts that speak of different registers: the refusal mark, the unused lines, the dispatcher and the
waits. Each part is kept by every turn without reset, and the whole holds after a reset. -/

namespace Sys2Proof.Machine

/-! ## The invariant in parts -/

/-- The clauses of `BlockInv` on the refusal mark. -/
structure RefusalInv (s : State) : Prop where
  configWf : s.refused = false → s.config.wf = true
  reason : s.refuseReason = .none ↔ s.refused = false

/-- The clauses of `BlockInv` on the status lines, the latches and the dispatcher's registers. -/
structure DispatchInv (s : State) : Prop where
  unusedDr : s.config.hasDr = false → s.drLvl = false ∧ s.irqDrPend = false
  unusedAm : s.config.hasAm = false → s.amLvl = false ∧ s.irqAmPend = false
  latches : s.irqDrPend = true ∨ s.irqAmPend = true → s.config.disc = .interruptDriven ∧ s.initDone = true
  pending : s.pending = true → s.config.disc = .interruptDriven
  pollRegs : s.pollLast ≠ 0 ∨ s.pollInam = true → s.config.disc = .polled
  pollFlag : s.pollInam = true ↔ s.pollLast = 0b01#2

/-- The clauses of `BlockInv` on the sequencer and its waits. -/
structure WaitInv (s : State) : Prop where
  initWait : s.seq = .initWait → s.initDone = false
  notInit : s.refused = false → s.initDone = false → s.seq = .initWait
  txNm : s.seq = .txPwrupWait → s.txNm ≠ .transmit ∧ s.config.hasPwr = true
  target : s.seq ≠ .idle → ∃ n ∈ waitLengths s.config s.seq, s.dlyTarget = BitVec.ofNat 16 n

theorem blockInv_iff (s : State) :
    BlockInv s ↔ RefusalInv s ∧ (∀ l, s.config.hasLine l = false → lineReg l s = false) ∧ DispatchInv s ∧ WaitInv s :=
  ⟨fun h => ⟨⟨h.configWf, h.reason⟩, h.unusedLines,
    ⟨h.unusedDr, h.unusedAm, h.latches, h.pending, h.pollRegs, h.pollFlag⟩, ⟨h.initWait, h.notInit, h.txNm, h.target⟩⟩,
   fun ⟨hr, hl, hd, hw⟩ => ⟨hr.configWf, hr.reason, hl, hd.unusedDr, hd.unusedAm, hw.initWait, hw.notInit, hd.latches,
    hd.pending, hd.pollRegs, hd.pollFlag, hw.txNm, hw.target⟩⟩

/-! ## The refusal mark -/

theorem takeTurn_keeps_refusalInv {x : Turn} {s t : State} (hx : isReset x = false) (h : takeTurn x s = .next t)
    (hs : RefusalInv s) : RefusalInv t := by
  have hconfig := takeTurn_config hx h
  cases takeTurn_refusal hx h with
  | kept mark reason => exact ⟨by rw [mark, hconfig]; exact hs.configWf, by rw [mark, reason]; exact hs.reason⟩
  | raised r ws ts n some_reason effect =>
    subst effect
    refine ⟨nofun, ?_⟩
    cases hr : s.refused with
    | false => simp [some_reason]
    | true => simp [hr, hs.reason]

/-! ## The dispatcher -/

/-- The registers that `DispatchInv` reads, `INIT_DONE` aside. -/
def dispatchRegs (s : State) : Config × Bool × Bool × Bool × Bool × Bool × Status × Bool :=
  (s.config, s.drLvl, s.amLvl, s.irqDrPend, s.irqAmPend, s.pending, s.pollLast, s.pollInam)

theorem DispatchInv.of_eq {s t : State} (hs : DispatchInv s) (hregs : dispatchRegs t = dispatchRegs s)
    (hinit : s.initDone = true → t.initDone = true) : DispatchInv t := by
  simp only [dispatchRegs, Prod.mk.injEq] at hregs
  obtain ⟨hconfig, hdr, ham, hdrp, hamp, hpend, hlast, hinam⟩ := hregs
  constructor
  case latches =>
    rw [hdrp, hamp, hconfig]
    exact fun h => (hs.latches h).imp_right hinit
  all_goals simp only [hconfig, hdr, ham, hdrp, hamp, hpend, hlast, hinam]
  exacts [hs.unusedDr, hs.unusedAm, hs.pending, hs.pollRegs, hs.pollFlag]

/-- R145's rows: POLL leaves its flag 1 exactly when it remembers 01, if it was so before. -/
theorem pollRow_flag {w last : Status} {inam : Bool} (h : inam = true ↔ last = 0b01#2) :
    (pollRow w last inam).2 = true ↔ w = 0b01#2 := by
  revert w last inam
  decide

theorem dispatchInv_pollStep {s : State} (hs : DispatchInv s) (hd : s.config.disc = .polled) : DispatchInv (pollStep s) := by
  rw [pollStep_eq]
  exact ⟨hs.unusedDr, hs.unusedAm, hs.latches, hs.pending, fun _ => hd, pollRow_flag hs.pollFlag⟩

theorem dispatchInv_exec_command {i : Instr} {s t : State} (hi : i.isCommand = true) (h : exec i s = .next t)
    (hs : DispatchInv s) : DispatchInv t := by
  obtain rfl | rfl | rfl | rfl | ⟨_, rfl⟩ | ⟨hd, rfl⟩ | ⟨-, rfl⟩ | ⟨-, _, rfl⟩ | ⟨-, rfl⟩ | ⟨-, _, rfl⟩ :=
    exec_command_cases hi h
  case inr.inr.inr.inr.inr.inl => exact dispatchInv_pollStep hs hd
  all_goals exact hs.of_eq (by simp [dispatchRegs]) (by simp)

/-- R201: a wait's completion never takes `INIT_DONE` back. -/
theorem waitComplete_initDone (s : State) : s.initDone = true → (waitComplete s).initDone = true := by
  unfold waitComplete
  split <;> simp [initDoneStep]

/-- R146: only with its latch set, and so only interrupt-driven, can IRQ.DR set `PENDING`. -/
theorem dispatchInv_irqDr {s : State} (hs : DispatchInv s) (he : irqDrEnabled s = true) :
    DispatchInv (drClassify { s with irqDrPend := false }) := by
  have hirq := (hs.latches (.inl (Bool.and_eq_true_iff.1 he).1)).1
  rw [drClassify_eq]
  exact ⟨fun h => ⟨(hs.unusedDr h).1, rfl⟩, hs.unusedAm, fun h => hs.latches (.inr (h.resolve_left nofun)), fun _ => hirq,
    hs.pollRegs, hs.pollFlag⟩

theorem dispatchInv_irqAm {s : State} (hs : DispatchInv s) : DispatchInv (amClassify { s with irqAmPend := false }) := by
  rw [amClassify_eq]
  exact ⟨hs.unusedDr, fun h => ⟨(hs.unusedAm h).1, rfl⟩, fun h => hs.latches (.inl (h.resolve_right nofun)), nofun,
    hs.pollRegs, hs.pollFlag⟩

/-- R37 with R175: an absent line is held at 0 with no interrupt, and an edge latches only while interrupts are attached. -/
theorem dispatchInv_envStatus {s : State} (hs : DispatchInv s) (dr am : Bool) : DispatchInv (envStatus dr am s) := by
  rw [envStatus_eq]
  constructor
  case unusedDr =>
    intro h
    change s.config.hasDr = false at h
    simp [h, (hs.unusedDr h).2]
  case unusedAm =>
    intro h
    change s.config.hasAm = false at h
    simp [h, (hs.unusedAm h).2]
  case latches =>
    rintro (h | h) <;> simp only at h <;> split at h
    case inl.isTrue edge | inr.isTrue edge =>
      obtain ⟨hirq, hinit, -⟩ := edge
      exact ⟨hirq, hinit⟩
    · exact hs.latches (.inl h)
    · exact hs.latches (.inr h)
  case pending => exact hs.pending
  case pollRegs => exact hs.pollRegs
  case pollFlag => exact hs.pollFlag

theorem takeTurn_keeps_dispatchInv {x : Turn} {s t : State} (hx : isReset x = false) (h : takeTurn x s = .next t) :
    DispatchInv s → DispatchInv t := by
  refine takeTurn_elim h (fun s t => DispatchInv s → DispatchInv t) ?hold ?command ?refuse ?waitDone ?irqDr ?irqAm ?status
    ?carrier ?tick ?line ?reset
  case command =>
    exact fun s ws n i hi _ t he _ hs =>
      dispatchInv_exec_command (s := { s with host := ws, freeCount := n }) hi he (hs.of_eq rfl id)
  case waitDone => exact fun s _ _ hs => hs.of_eq (by simp [dispatchRegs]) (waitComplete_initDone s)
  case irqDr => exact fun s he _ hs => dispatchInv_irqDr hs he
  case irqAm => exact fun s _ _ hs => dispatchInv_irqAm hs
  case status => exact fun s d a _ hs => dispatchInv_envStatus hs d a
  case line => exact fun s l v _ hs => hs.of_eq (by simp [dispatchRegs]) (by simp)
  case reset =>
    rintro _ _ _ _ _ rfl
    cases hx
  case hold => exact fun _ => id
  case refuse => exact fun s _ _ _ _ _ _ hs => hs.of_eq rfl id
  case carrier => exact fun s _ _ hs => hs.of_eq rfl id
  case tick => exact fun s _ hs => hs.of_eq rfl id

/-! ## The waits -/

theorem WaitInv.of_eq {s t : State} (hs : WaitInv s) (hconfig : t.config = s.config := by simp)
    (hseq : t.seq = s.seq := by simp) (hinit : t.initDone = s.initDone := by simp) (hnm : t.txNm = s.txNm := by simp)
    (htarget : t.dlyTarget = s.dlyTarget := by simp) (hlive : t.refused = false → s.refused = false := by simp) :
    WaitInv t := by
  constructor
  case notInit =>
    rw [hinit, hseq]
    exact fun hr => hs.notInit (hlive hr)
  all_goals simp only [hconfig, hseq, hinit, hnm, htarget]
  exacts [hs.initWait, hs.txNm, hs.target]

/-- A command whose accept step ends it leaves no wait. -/
theorem WaitInv.of_idle {t : State} (hinit : t.initDone = true) (hseq : t.seq = .idle) : WaitInv t := by
  constructor <;> simp [hinit, hseq]

/-- One of TX's two last waits, with a length of that wait. -/
theorem WaitInv.of_lastWait {t : State} {n : Nat} (hinit : t.initDone = true) (hseq : t.seq = .txRxWait ∨ t.seq = .txSbWait)
    (hn : n ∈ waitLengths t.config t.seq) (htarget : t.dlyTarget = BitVec.ofNat 16 n) : WaitInv t := by
  constructor
  case target => exact fun _ => ⟨n, hn, htarget⟩
  all_goals obtain hseq | hseq := hseq <;> simp [hinit, hseq]

theorem waitInv_txStart {s : State} (hinit : s.initDone = true) (nm : NextMode) (m : Mode) : WaitInv (txStart nm m s) := by
  have hinit' : (txStart nm m s).initDone = true := by simpa using hinit
  obtain ⟨hseq, -⟩ | ⟨hseq, -, htarget, -⟩ | ⟨hseq, -, -, htarget⟩ := txStart_wait nm m s
  · exact .of_idle hinit' hseq
  · exact .of_lastWait hinit' (.inr hseq) (by simp [hseq, waitLengths]) htarget
  · refine .of_lastWait hinit' (.inl hseq) ?_ htarget
    rw [hseq]
    by_cases hm : m = .standby <;> simp [waitLengths, hm]

theorem waitInv_txFromPowerDown {s : State} (hinit : s.initDone = true) (hm : mode s = .powerDown) (nm : NextMode) :
    WaitInv (txFromPowerDown nm s) := by
  by_cases hnm : nm = .transmit
  · rw [txFromPowerDown, if_pos hnm]
    exact waitInv_txStart (by simpa using hinit) nm .standby
  · rw [txFromPowerDown, if_neg hnm]
    have hpwr := hasPwr_of_mode_powerDown hm
    constructor <;> simp [hinit, hnm, hpwr, waitLengths]

theorem waitInv_exec_command {i : Instr} {s t : State} (hi : i.isCommand = true) (h : exec i s = .next t)
    (hinit : s.initDone = true) (hs : WaitInv s) : WaitInv t := by
  obtain rfl | rfl | rfl | rfl | ⟨_, rfl⟩ | ⟨-, rfl⟩ | ⟨-, rfl⟩ | ⟨hm, nm, rfl⟩ | ⟨-, rfl⟩ | ⟨-, nm, rfl⟩ :=
    exec_command_cases hi h
  case inr.inr.inr.inr.inr.inl => exact .of_idle (by simpa using hinit) (by rw [pollStep_eq])
  case inr.inr.inr.inr.inr.inr.inl => exact hs.of_eq
  case inr.inr.inr.inr.inr.inr.inr.inl => exact waitInv_txFromPowerDown hinit hm nm
  case inr.inr.inr.inr.inr.inr.inr.inr.inr => exact waitInv_txStart hinit nm (mode s)
  all_goals exact .of_idle (by simpa using hinit) rfl

/-- R102: the completion of one wait leads to idle, or from the power-up wait to one of TX's two last waits. -/
theorem waitInv_waitComplete {s : State} (hs : WaitInv s) (he : waitDoneEnabled s = true) : WaitInv (waitComplete s) := by
  obtain ⟨hr, hbusy, -⟩ := (waitDoneEnabled_iff s).1 he
  by_cases hq : s.seq = .initWait
  · rw [waitComplete_initWait hq]
    exact .of_idle rfl rfl
  have hinit : s.initDone = true := by
    by_contra h
    exact hq (hs.notInit hr (Bool.eq_false_of_not_eq_true h))
  cases h : s.seq with
  | idle => exact absurd h hbusy
  | initWait => exact absurd h hq
  | txPwrupWait => rw [waitComplete_txPwrupWait h]; exact waitInv_txStart hinit s.txNm .standby
  | txRxWait => rw [waitComplete_txRxWait h, lineWrites_eq]; exact .of_idle hinit rfl
  | txSbWait => rw [waitComplete_txSbWait h, lineWrites_eq]; exact .of_idle hinit rfl

theorem takeTurn_keeps_waitInv {x : Turn} {s t : State} (hx : isReset x = false) (h : takeTurn x s = .next t) :
    WaitInv s → WaitInv t := by
  refine takeTurn_elim h (fun s t => WaitInv s → WaitInv t) ?hold ?command ?refuse ?waitDone ?irqDr ?irqAm ?status
    ?carrier ?tick ?line ?reset
  case command =>
    intro s ws n i hi hp t he _ hs
    obtain ⟨-, hinit, -⟩ := (portOpen_iff s).1 hp
    exact waitInv_exec_command (s := { s with host := ws, freeCount := n }) hi he hinit hs.of_eq
  case waitDone => exact fun s he _ hs => waitInv_waitComplete hs he
  case reset =>
    rintro _ _ _ _ _ rfl
    cases hx
  case hold => exact fun _ => id
  case carrier => exact fun s _ _ hs => hs.of_eq rfl rfl rfl rfl rfl id
  case tick => exact fun s _ hs => hs.of_eq rfl rfl rfl rfl rfl id
  all_goals intros; exact WaitInv.of_eq (by assumption)

/-! ## The whole invariant -/

/-- Settles O54: R39's table meets every clause, and so do the zero registers of a refused reset. -/
theorem resetMeetsInvariant : Obligations.ResetMeetsInvariant := by
  unfold Obligations.ResetMeetsInvariant
  intro c dr am cd ws ts
  cases h : c.wf with
  | false =>
    simp only [State.resetWith, h]
    constructor
    case unusedLines => rintro (_ | _ | _) _ <;> rfl
    all_goals simp [State.resetRefused]
  | true =>
    obtain ⟨hstby, -⟩ := c.wf_iff.1 h
    simp only [State.resetWith, h]
    constructor
    case unusedLines => rintro (_ | _ | _) hl <;> simp_all [lineReg, Config.hasLine]
    case target => exact fun _ => ⟨c.tInit, by simp [waitLengths], rfl⟩
    all_goals simp +contextual [h]

/-- The invariant speaks of the block, not of the model's own lists. -/
theorem BlockInv.of_lists {s : State} (h : BlockInv s) (ws : List Word) (ts : List Turn) (n : Nat) :
    BlockInv { s with host := ws, schedule := ts, freeCount := n } := by
  obtain ⟨h1, h2, h3, h4, h5, h6, h7, h8, h9, h10, h11, h12, h13⟩ := h
  exact ⟨h1, h2, fun l => by cases l <;> [exact h3 .pwr; exact h3 .stby; exact h3 .txen], h4, h5, h6, h7, h8, h9, h10, h11,
    h12, h13⟩

theorem takeTurn_keeps_blockInv {x : Turn} {s t : State} (h : takeTurn x s = .next t) (hs : BlockInv s) : BlockInv t := by
  cases hx : isReset x with
  | true =>
    obtain ⟨c, dr, am, cd, rfl⟩ := eq_reset_of_isReset hx
    cases h
    rw [resetTurn_eq]
    exact (resetMeetsInvariant c dr am cd [] []).of_lists s.host s.schedule s.freeCount
  | false =>
    obtain ⟨hrefusal, hlines, hdispatch, hwait⟩ := (blockInv_iff s).1 hs
    refine (blockInv_iff t).2 ⟨takeTurn_keeps_refusalInv hx h hrefusal, fun l hl => ?_,
      takeTurn_keeps_dispatchInv hx h hdispatch, takeTurn_keeps_waitInv hx h hwait⟩
    rw [takeTurn_config hx h] at hl
    rw [(unusedLinesAreNeverWritten s t x l hx h hl).1, hlines l hl]

/-- Settles O53: a step is a turn, and a turn keeps the four parts of the invariant or is a reset. -/
theorem stepKeepsInvariant : Obligations.StepKeepsInvariant := by
  unfold Obligations.StepKeepsInvariant
  intro s t hs h
  obtain ⟨ts, n, hturn⟩ := turn_of_step h
  exact takeTurn_keeps_blockInv hturn (hs.of_lists s.host ts n)

end Sys2Proof.Machine
end

section
/-! SUPPORT. TX from its accept step to its response (spec/40_mode_sequencer.md R110 to R116, 10_state.md R32). Lemmas: TX's
three accept steps, the mode after line writes that leave power alone, the lines during the waits, and the count of
responses given and owed. -/

namespace Sys2Proof.Machine

/-! ## The accept step by cases -/

/-- R110's three cases: power up first, abort on a busy channel, or start to transmit. -/
theorem exec_tx_cases {nm : NextMode} {ca : Bool} {s t : State} (h : exec (.tx nm ca) s = .next t) :
    (mode s = .powerDown ∧ t = txFromPowerDown nm s) ∨
    (mode s ≠ .powerDown ∧ ca = true ∧ cdRead s = true ∧ t = respond .tx 0 s) ∨
    (mode s ≠ .powerDown ∧ (ca && cdRead s) = false ∧ t = txStart nm (mode s) s) := by
  by_cases hm : mode s = .powerDown
  · cases (exec_tx_of_powerDown hm nm ca).symm.trans h
    exact .inl ⟨hm, rfl⟩
  · cases hbusy : ca && cdRead s with
    | true =>
      simp only [exec, execTx, hm, hbusy, if_true, if_false] at h
      cases h
      obtain ⟨hca, hcd⟩ := Bool.and_eq_true_iff.1 hbusy
      exact .inr (.inl ⟨hm, hca, hcd, rfl⟩)
    | false =>
      cases (exec_tx_of_free hm hbusy nm).symm.trans h
      exact .inr (.inr ⟨hm, rfl, rfl⟩)

/-- The power-up writes of R110. -/
def powerUp (s : State) : State := lineWrites [(.stby, true), (.pwr, true)] s

theorem txFromPowerDown_transmit (s : State) : txFromPowerDown .transmit s = txStart .transmit .standby (powerUp s) := rfl

theorem txFromPowerDown_of_ne {nm : NextMode} (h : nm ≠ .transmit) (s : State) :
    txFromPowerDown nm s = startWait s.config.tPwrup .txPwrupWait { powerUp s with txNm := nm } := by
  rw [txFromPowerDown, if_neg h]
  simp [powerUp, lineWrites]

@[simp] theorem powerUp_config (s : State) : (powerUp s).config = s.config := by
  rw [powerUp, lineWrites_eq]

theorem mode_powerUp {s : State} (hstby : s.config.hasStby = true) : mode (powerUp s) = .standby :=
  mode_of_standby (powered_lineWrites rfl s) (lineRead_lineWrites (l := .stby) hstby rfl)

/-! ## The mode after writes that leave power alone -/

theorem powered_of_mode_ne {s : State} (h : mode s ≠ .powerDown) : s.config.hasPwr = false ∨ s.linePwr = true := by
  by_contra hp
  push Not at hp
  obtain ⟨hhas, hlow⟩ := hp
  exact h (mode_of_unpowered (by simpa using hhas) (by simpa using hlow))

theorem stby_of_mode_ne {s : State} (hp : mode s ≠ .powerDown) (hs : mode s ≠ .standby) : lineRead .stby s = false := by
  by_contra h
  exact hs (mode_of_standby (powered_of_mode_ne hp) (Bool.eq_true_of_not_eq_false h))

theorem powered_lineWrites_of_mode {ws : List (Line × Bool)} {s : State} (hws : lastWrite .pwr ws = none)
    (hp : mode s ≠ .powerDown) : (lineWrites ws s).config.hasPwr = false ∨ (lineWrites ws s).linePwr = true := by
  have hpower : levelAfter s .pwr ws = s.linePwr := by rw [levelAfter, hws]; rfl
  rw [lineWrites_eq, hpower]
  exact powered_of_mode_ne (s := s) hp

/-- With power and standby settled, the mode is what the last write to tx-enable makes it (R100). -/
theorem mode_lineWrites_active {ws : List (Line × Bool)} {s : State} {v : Bool} (hws : lastWrite .pwr ws = none)
    (hp : mode s ≠ .powerDown) (hstby : lineRead .stby (lineWrites ws s) = false) (htxen : lastWrite .txen ws = some v) :
    mode (lineWrites ws s) =
      if s.config.hasTxen then (if v then .transmit else .receive) else .activeUnknown := by
  have hconfig : (lineWrites ws s).config = s.config := by rw [lineWrites_eq]
  rw [mode_of_active (powered_lineWrites_of_mode hws hp) hstby, hconfig]
  cases hx : s.config.hasTxen with
  | false => rfl
  | true =>
    have htx : (lineWrites ws s).lineTxen = v := lineReg_lineWrites (l := .txen) hx htxen
    rw [htx]

theorem transmitMode_ne (c : Config) : transmitMode c ≠ .powerDown ∧ transmitMode c ≠ .standby := by
  unfold transmitMode
  split <;> simp

/-- R112 and R115: TxStart from a powered mode leaves the transmit mode. -/
theorem mode_txStart {s : State} (hstby : s.config.hasStby = true) (hp : mode s ≠ .powerDown) (nm : NextMode) :
    mode (txStart nm (mode s) s) = transmitMode s.config := by
  have hmode : mode (txStart nm (mode s) s) = mode (lineWrites (txStartWrites (mode s)) s) := by
    cases nm <;> simp only [txStart_transmit, txStart_standby, txStart_receive] <;> rfl
  rw [hmode, transmitMode]
  by_cases hm : mode s = .standby
  · rw [txStartWrites, if_pos hm]
    exact mode_lineWrites_active (v := true) rfl hp (lineRead_lineWrites (l := .stby) hstby rfl) rfl
  · rw [txStartWrites, if_neg hm]
    refine mode_lineWrites_active (v := true) rfl hp ?_ rfl
    rw [lineWrites_eq, ← stby_of_mode_ne hp hm]
    rfl

/-! ## The lines during the waits -/

theorem TxLines.of_idle {t : State} (hstby : t.config.hasStby = true) (hseq : t.seq = .idle) : TxLines t :=
  ⟨hstby, by simp [hseq], by simp [hseq], by simp [hseq]⟩

theorem TxLines.of_eq {s t : State} (hs : TxLines s) (hconfig : t.config = s.config := by simp)
    (hseq : t.seq = s.seq := by simp) (hpwr : t.linePwr = s.linePwr := by simp) (hstby : t.lineStby = s.lineStby := by simp)
    (htxen : t.lineTxen = s.lineTxen := by simp) : TxLines t := by
  have hmode : mode t = mode s := mode_congr hconfig hpwr hstby htxen
  constructor <;> simp only [hmode, hconfig, hseq]
  exacts [hs.stby, hs.pwrup, hs.rx, hs.sb]

theorem txLines_txStart {s : State} (hstby : s.config.hasStby = true) (hp : mode s ≠ .powerDown) (nm : NextMode) :
    TxLines (txStart nm (mode s) s) := by
  have hmode := mode_txStart hstby hp nm
  have hstby' : (txStart nm (mode s) s).config.hasStby = true := by simpa using hstby
  obtain ⟨hseq, -⟩ | ⟨hseq, -⟩ | ⟨hseq, -⟩ := txStart_wait nm (mode s) s
  · exact .of_idle hstby' hseq
  · exact ⟨hstby', by simp [hseq], by simp [hseq], fun _ => by simpa using hmode⟩
  · exact ⟨hstby', by simp [hseq], fun _ => by simpa using hmode, by simp [hseq]⟩

/-- TxStart from STANDBY, as after the power-up. -/
theorem txLines_txStart_standby {s : State} (hstby : s.config.hasStby = true) (hm : mode s = .standby) (nm : NextMode) :
    TxLines (txStart nm .standby s) :=
  hm ▸ txLines_txStart hstby (by simp [hm]) nm

theorem txLines_txFromPowerDown {s : State} (hstby : s.config.hasStby = true) (nm : NextMode) :
    TxLines (txFromPowerDown nm s) := by
  have hstby' : (powerUp s).config.hasStby = true := by simpa using hstby
  by_cases hnm : nm = .transmit
  · rw [hnm, txFromPowerDown_transmit]
    exact txLines_txStart_standby hstby' (mode_powerUp hstby) _
  · rw [txFromPowerDown_of_ne hnm]
    exact ⟨hstby', fun _ => mode_powerUp hstby, nofun, nofun⟩

theorem exec_command_txLines {i : Instr} {s t : State} (hi : i.isCommand = true) (h : exec i s = .next t)
    (hs : TxLines s) : TxLines t := by
  have hstby : t.config.hasStby = true := exec_command_config hi h ▸ hs.stby
  obtain rfl | rfl | rfl | rfl | ⟨_, rfl⟩ | ⟨-, rfl⟩ | ⟨-, rfl⟩ | ⟨-, nm, rfl⟩ | ⟨-, rfl⟩ | ⟨hp, nm, rfl⟩ :=
    exec_command_cases hi h
  case inr.inr.inr.inr.inr.inl => exact .of_idle hstby (by rw [pollStep_eq])
  case inr.inr.inr.inr.inr.inr.inl => exact hs.of_eq
  case inr.inr.inr.inr.inr.inr.inr.inl => exact txLines_txFromPowerDown hs.stby nm
  case inr.inr.inr.inr.inr.inr.inr.inr.inr => exact txLines_txStart hs.stby hp nm
  all_goals exact .of_idle hstby rfl

theorem waitComplete_txLines {s : State} (hs : TxLines s) : TxLines (waitComplete s) := by
  have hstby : (waitComplete s).config.hasStby = true := by simpa using hs.stby
  cases h : s.seq with
  | idle => rwa [show waitComplete s = s by simp [waitComplete, h]]
  | initWait => rw [waitComplete_initWait h] at hstby ⊢; exact .of_idle hstby rfl
  | txPwrupWait => rw [waitComplete_txPwrupWait h]; exact txLines_txStart_standby hs.stby (hs.pwrup h) _
  | txRxWait => rw [waitComplete_txRxWait h] at hstby ⊢; exact .of_idle hstby rfl
  | txSbWait => rw [waitComplete_txSbWait h] at hstby ⊢; exact .of_idle hstby rfl

/-- Settles O25: a command or a completion starts a wait with its lines; every other turn keeps lines and wait. -/
theorem turnsKeepTxLines : Obligations.TurnsKeepTxLines := by
  unfold Obligations.TurnsKeepTxLines
  intro s t x hx hline hs h
  refine takeTurn_elim h (fun s t => TxLines s → TxLines t) ?hold ?command ?refuse ?waitDone ?irqDr ?irqAm ?status ?carrier
    ?tick ?line ?reset hs
  case command =>
    exact fun s ws n i hi _ t he _ hs => exec_command_txLines (s := { s with host := ws, freeCount := n }) hi he hs.of_eq
  case waitDone => exact fun s _ _ hs => waitComplete_txLines hs
  case line =>
    rintro _ _ _ rfl
    cases hline
  case reset =>
    rintro _ _ _ _ _ rfl
    cases hx
  case hold => exact fun _ => id
  case carrier => exact fun s _ _ hs => hs.of_eq rfl rfl rfl rfl rfl
  case tick => exact fun s _ hs => hs.of_eq rfl rfl rfl rfl rfl
  all_goals intros; exact TxLines.of_eq (by assumption)

theorem takeTurn_waitDone_of_enabled {s : State} (h : waitDoneEnabled s = true) :
    takeTurn .waitDone s = .next (waitComplete s) :=
  congrArg _ (if_pos h)

theorem seq_txStart_standby (m : Mode) (s : State) : (txStart .standby m s).seq = .txSbWait := by
  rw [txStart_standby]
  rfl

theorem seq_txStart_receive (m : Mode) (s : State) : (txStart .receive m s).seq = .txRxWait := by
  rw [txStart_receive]
  rfl

/-- Settles O26: `mode_txStart` for TRANSMIT; the accept step and the power-up's completion by `TxLines`; the last two
completions write tx-enable or standby in the transmit mode. -/
theorem successfulTxEndsInItsTargetMode : Obligations.SuccessfulTxEndsInItsTargetMode := by
  unfold Obligations.SuccessfulTxEndsInItsTargetMode
  refine ⟨fun s t ca hs h hresp => ?transmit, fun s nm ca hs hnm hfree => ?accept, fun s hs he => ?complete⟩
  case transmit =>
    obtain ⟨-, rfl⟩ | ⟨-, -, -, rfl⟩ | ⟨hp, -, rfl⟩ := exec_tx_cases h
    · have hm := mode_powerUp hs.stby
      have := mode_txStart (s := powerUp s) (by simpa using hs.stby) (by simp [hm]) .transmit
      rwa [hm, ← txFromPowerDown_transmit, powerUp_config] at this
    · simp at hresp
    · exact mode_txStart hs.stby hp .transmit
  case accept =>
    obtain ⟨t, ht⟩ := exec_next (.tx nm ca) s
    refine ⟨t, ht, exec_command_txLines rfl ht hs, ?_⟩
    obtain ⟨-, rfl⟩ | ⟨hp, hca, hcd, -⟩ | ⟨-, -, rfl⟩ := exec_tx_cases ht
    · rw [txFromPowerDown_of_ne hnm]
      exact .inl ⟨rfl, rfl⟩
    · simp [hp, hca, hcd] at hfree
    · cases nm with
      | transmit => exact absurd rfl hnm
      | standby => exact .inr (.inr ⟨seq_txStart_standby .., rfl⟩)
      | receive => exact .inr (.inl ⟨seq_txStart_receive .., rfl⟩)
  case complete =>
    have hturn := takeTurn_waitDone_of_enabled he
    have hlines := waitComplete_txLines hs
    refine ⟨fun hq hnm => ⟨_, hturn, hlines, ?_⟩, fun hq hnm => ⟨_, hturn, hlines, ?_⟩, fun hq => ⟨_, hturn, ?_⟩,
      fun hq => ⟨_, hturn, ?_⟩⟩
    · rw [waitComplete_txPwrupWait hq, hnm, seq_txStart_standby]
    · rw [waitComplete_txPwrupWait hq, hnm, seq_txStart_receive]
    · obtain ⟨hp, -⟩ := transmitMode_ne s.config
      rw [← hs.sb hq] at hp
      rw [waitComplete_txSbWait hq, mode_respond]
      exact ⟨mode_of_standby (powered_lineWrites_of_mode rfl hp) (lineRead_lineWrites (l := .stby) hs.stby rfl), rfl⟩
    · obtain ⟨hp, hsb⟩ := transmitMode_ne s.config
      rw [← hs.rx hq] at hp hsb
      rw [waitComplete_txRxWait hq, mode_respond]
      refine ⟨mode_lineWrites_active (v := false) rfl hp ?_ rfl, rfl⟩
      rw [lineWrites_eq, ← stby_of_mode_ne hp hsb]
      rfl

/-! ## Responses given and owed -/

/-- A TX in one of its waits, which still owes its response. -/
def owed (s : State) : Nat := if s.seq = .txPwrupWait ∨ s.seq = .txRxWait ∨ s.seq = .txSbWait then 1 else 0

/-- The responses given, and the one owed. -/
def given (s : State) : Nat := s.respLog.length + owed s

theorem given_of_eq {s t : State} (hlog : t.respLog = s.respLog := by simp) (hseq : t.seq = s.seq := by simp) :
    given t = given s := by
  simp [given, owed, hlog, hseq]

theorem given_of_idle {s : State} (h : s.seq = .idle) : given s = s.respLog.length := by
  simp [given, owed, h]

theorem given_txStart (nm : NextMode) (m : Mode) (s : State) : given (txStart nm m s) = s.respLog.length + 1 := by
  cases nm <;> simp [given, owed, txStart_transmit, txStart_standby, txStart_receive, lineWrites_eq]

theorem given_txFromPowerDown (nm : NextMode) (s : State) : given (txFromPowerDown nm s) = s.respLog.length + 1 := by
  by_cases hnm : nm = .transmit
  · rw [hnm, txFromPowerDown_transmit, given_txStart, powerUp, lineWrites_eq]
  · simp [txFromPowerDown_of_ne hnm, given, owed, powerUp, lineWrites_eq]

theorem exec_command_given {i : Instr} {s t : State} (hi : i.isCommand = true) (hr : s.refused = false)
    (h : exec i s = .next t) (hq : s.seq = .idle) : given t = given s + (if t.refused then 0 else 1) := by
  rw [given_of_idle hq]
  obtain rfl | rfl | rfl | rfl | ⟨_, rfl⟩ | ⟨-, rfl⟩ | ⟨-, rfl⟩ | ⟨-, nm, rfl⟩ | ⟨-, rfl⟩ | ⟨-, nm, rfl⟩ :=
    exec_command_cases hi h
  case inr.inr.inr.inr.inr.inl => simp [pollStep_eq, given, owed, hr]
  case inr.inr.inr.inr.inr.inr.inl => simp [given, owed, hq]
  case inr.inr.inr.inr.inr.inr.inr.inl => simp [given_txFromPowerDown, hr]
  case inr.inr.inr.inr.inr.inr.inr.inr.inr => simp [given_txStart, hr]
  all_goals simp [given, owed, hr]

theorem given_waitComplete (s : State) : given (waitComplete s) = given s := by
  cases h : s.seq with
  | idle => simp [waitComplete, h]
  | initWait => rw [waitComplete_initWait h]; simp [given, owed, initDoneStep, h]
  | txPwrupWait => rw [waitComplete_txPwrupWait h, given_txStart]; simp [given, owed, h]
  | txRxWait => rw [waitComplete_txRxWait h]; simp [given, owed, h, lineWrites_eq]
  | txSbWait => rw [waitComplete_txSbWait h]; simp [given, owed, h, lineWrites_eq]

/-- Settles O27: a command gives or comes to owe one response unless it is refused, and a completion gives what was
owed. -/
theorem everyAcceptedCommandRespondsOnce : Obligations.EveryAcceptedCommandRespondsOnce := by
  unfold Obligations.EveryAcceptedCommandRespondsOnce
  refine ⟨fun s t i hi hq hr h => exec_command_given hi hr h hq, fun s t x hhost hx h => ?_⟩
  refine takeTurn_elim h (fun s t => given t = given s) ?hold ?command ?refuse ?waitDone ?irqDr ?irqAm ?status ?carrier
    ?tick ?line ?reset
  case command => exact fun _ _ _ _ _ _ _ _ hx => absurd hx hhost
  case refuse => exact fun _ _ _ _ _ _ hx => absurd hx hhost
  case waitDone => exact fun s _ _ => given_waitComplete s
  case reset =>
    rintro _ _ _ _ _ rfl
    cases hx
  case hold | carrier | tick => intros; rfl
  all_goals intros; exact given_of_eq

end Sys2Proof.Machine
end

section
/-! SUPPORT. How long the waits last (spec/00_scope.md R13, 40_mode_sequencer.md R101, R102, 70_reset_and_hazards.md R201,
R202, R220). Lemmas: every turn but the enabled WAIT_DONE leaves a wait as it is, up to the tick count; the ticks a TX still
needs; and one stretch of ticks with a WAIT_DONE at its end. -/

namespace Sys2Proof.Machine

/-! ## A wait goes on -/

/-- Across a turn `x` the wait of `s` goes on: nothing that a wait's completion would change has changed, and only a tick is
counted. -/
structure WaitGoesOn (x : Turn) (s t : State) : Prop where
  refused : t.refused = s.refused
  seq : t.seq = s.seq
  dlyTarget : t.dlyTarget = s.dlyTarget
  txNm : t.txNm = s.txNm
  respLog : t.respLog = s.respLog
  lineTrace : t.lineTrace = s.lineTrace
  initDone : t.initDone = s.initDone
  host : t.host = s.host
  elapsed : t.dlyElapsed.toNat = min (s.dlyElapsed.toNat + if isTick x then 1 else 0) 65535

/-- Across a turn that is no tick the wait goes on if nothing of it changes. -/
theorem WaitGoesOn.of_eq {x : Turn} {s t : State} (hx : isTick x = false) (refused : t.refused = s.refused := by simp)
    (seq : t.seq = s.seq := by simp) (dlyTarget : t.dlyTarget = s.dlyTarget := by simp) (txNm : t.txNm = s.txNm := by simp)
    (respLog : t.respLog = s.respLog := by simp) (lineTrace : t.lineTrace = s.lineTrace := by simp)
    (initDone : t.initDone = s.initDone := by simp) (host : t.host = s.host := by simp)
    (dlyElapsed : t.dlyElapsed = s.dlyElapsed := by simp) : WaitGoesOn x s t :=
  ⟨refused, seq, dlyTarget, txNm, respLog, lineTrace, initDone, host, by
    have := s.dlyElapsed.isLt
    simp only [dlyElapsed, hx, Bool.false_eq_true, if_false]
    omega⟩

theorem isTick_iff (x : Turn) : isTick x = true ↔ x = .envTick := by
  cases x <;> simp [isTick]

/-- R173: while a wait runs, only an enabled WAIT_DONE ends it. -/
theorem takeTurn_waitGoesOn {x : Turn} {s t : State} (hx : isReset x = false) (h : takeTurn x s = .next t) :
    s.seq ≠ .idle → (x = .waitDone → waitDoneEnabled s = false) → WaitGoesOn x s t := by
  by_cases htick : x = .envTick
  · subst htick
    cases h
    exact fun _ _ => ⟨rfl, rfl, rfl, rfl, rfl, rfl, rfl, rfl, tickUp_toNat _⟩
  have hnot : isTick x = false := Bool.eq_false_of_not_eq_true fun h => htick ((isTick_iff x).1 h)
  have idle {s : State} (hp : portOpen s = true) : s.seq = .idle := ((portOpen_iff s).1 hp).2.2
  refine takeTurn_elim h (fun s t => s.seq ≠ .idle → (x = .waitDone → waitDoneEnabled s = false) → WaitGoesOn x s t)
    ?hold ?command ?refuse ?waitDone ?irqDr ?irqAm ?status ?carrier ?tick ?line ?reset
  case command => exact fun s _ _ _ _ hp _ _ _ hq => absurd (idle hp) hq
  case refuse => exact fun s _ _ _ hp _ _ hq => absurd (idle hp) hq
  case waitDone => exact fun s he hx _ hdue => absurd he (by simp [hdue hx])
  case tick => exact fun _ hx => absurd hx htick
  case reset =>
    rintro _ _ _ _ _ rfl
    cases hx
  case hold | carrier => intros; exact .of_eq hnot rfl rfl rfl rfl rfl rfl rfl rfl rfl
  all_goals intros; exact .of_eq hnot

theorem tickCount_cons (x : Turn) (ts : List Turn) : tickCount (x :: ts) = tickCount ts + if isTick x then 1 else 0 :=
  List.countP_cons ..

/-- Settles O28: the wait is not due at any turn of the list, so each turn is one across which it goes on. -/
theorem waitsNeverEndEarly : Obligations.WaitsNeverEndEarly := by
  unfold Obligations.WaitsNeverEndEarly
  intro ts
  induction ts with
  | nil => exact fun s _ _ _ _ => ⟨s, rfl, rfl, rfl, rfl, rfl, rfl, rfl, rfl⟩
  | cons x ts ih =>
    intro s hr hq hts hticks
    obtain ⟨u, hu⟩ := takeTurn_next x s
    have hdue : waitDoneEnabled s = false := by
      rw [← Bool.not_eq_true, waitDoneEnabled_iff]
      omega
    have hgo := takeTurn_waitGoesOn (hts x (.head _)) hu hq fun _ => hdue
    have hleft : u.dlyElapsed.toNat + tickCount ts < u.dlyTarget.toNat := by
      rw [tickCount_cons] at hticks
      rw [hgo.dlyTarget, hgo.elapsed]
      omega
    obtain ⟨t, ht, h1, h2, h3, h4, h5, h6, h7⟩ :=
      ih u (hgo.refused.trans hr) (hgo.seq ▸ hq) (fun y hy => hts y (.tail _ hy)) hleft
    exact ⟨t, (runTurns_cons ts hr hu).trans ht, h1.trans hgo.seq, h2.trans hgo.dlyTarget, h3.trans hgo.txNm,
      h4.trans hgo.respLog, h5.trans hgo.lineTrace, h6.trans hgo.initDone, h7.trans hgo.host⟩

/-! ## The ticks a TX still needs -/

/-- The least ticks from `s` to the response of the TX in one of whose waits `s` is. -/
def ticksLeft (s : State) : Nat :=
  match s.seq with
  | .idle => 0
  | .initWait => 0
  | .txPwrupWait => s.dlyTarget.toNat - s.dlyElapsed.toNat + minTxTicks s.config .standby s.txNm
  | .txRxWait => s.dlyTarget.toNat - s.dlyElapsed.toNat
  | .txSbWait => s.dlyTarget.toNat - s.dlyElapsed.toNat

theorem minTxTicks_transmit (c : Config) (m : Mode) : minTxTicks c m .transmit = 0 := by cases m <;> rfl

theorem minTxTicks_standby (c : Config) {m : Mode} (h : m ≠ .powerDown) : minTxTicks c m .standby = c.tSettle := by
  cases m with
  | powerDown => exact absurd rfl h
  | _ => rfl

theorem minTxTicks_receive (c : Config) {m : Mode} (h : m ≠ .powerDown) :
    minTxTicks c m .receive = if m = .standby then c.tTxpulse else c.tSettle := by
  cases m with
  | powerDown => exact absurd rfl h
  | _ => rfl

/-- R8: every wait of a well-formed configuration fits the wait counter. -/
theorem ofNat_toNat_of_fits {n : Nat} (h : n ≤ 65535) : (BitVec.ofNat 16 n).toNat = n := by
  rw [BitVec.toNat_ofNat]
  omega

theorem ticksLeft_txStart {s : State} (hwf : s.config.wf = true) {m : Mode} (hm : m ≠ .powerDown) (nm : NextMode) :
    ticksLeft (txStart nm m s) = minTxTicks s.config m nm := by
  obtain ⟨-, -, -, hpulse, hsettle, -⟩ := s.config.wf_iff.1 hwf
  obtain ⟨hseq, rfl⟩ | ⟨hseq, rfl, htarget, helapsed⟩ | ⟨hseq, rfl, helapsed, htarget⟩ := txStart_wait nm m s
  · simp [ticksLeft, hseq, minTxTicks_transmit]
  · simp only [ticksLeft, hseq, htarget, helapsed, minTxTicks_standby _ hm, ofNat_toNat_of_fits hsettle]
    rfl
  · simp only [ticksLeft, hseq, htarget, helapsed, minTxTicks_receive _ hm]
    rw [ofNat_toNat_of_fits (by split <;> assumption)]
    rfl

theorem ticksLeft_txFromPowerDown {s : State} (hwf : s.config.wf = true) (nm : NextMode) :
    ticksLeft (txFromPowerDown nm s) = minTxTicks s.config .powerDown nm := by
  obtain ⟨-, -, hpwrup, -⟩ := s.config.wf_iff.1 hwf
  by_cases hnm : nm = .transmit
  · rw [hnm, txFromPowerDown_transmit, ticksLeft_txStart (by simpa using hwf) (by decide)]
    simp [minTxTicks_transmit]
  · rw [txFromPowerDown_of_ne hnm]
    simp only [ticksLeft, startWait_seq, startWait_dlyTarget, startWait_dlyElapsed, ofNat_toNat_of_fits hpwrup,
      startWait_config, startWait_txNm, powerUp_config]
    cases nm with
    | transmit => exact absurd rfl hnm
    | standby => rfl
    | receive => rfl

/-- A turn takes no more than its tick from what a TX still needs, and ends the TX only when nothing is left. -/
theorem takeTurn_ticksLeft {x : Turn} {s t : State} (hx : isReset x = false) (h : takeTurn x s = .next t)
    (hwf : s.config.wf = true) :
    (t.respLog = s.respLog → ticksLeft s ≤ ticksLeft t + if isTick x then 1 else 0) ∧
    (t.respLog ≠ s.respLog → ticksLeft s = 0) := by
  by_cases hwait : s.seq = .idle ∨ s.seq = .initWait
  · have : ticksLeft s = 0 := by obtain h | h := hwait <;> simp [ticksLeft, h]
    omega
  push Not at hwait
  obtain ⟨hidle, hinit⟩ := hwait
  by_cases hdone : x = .waitDone ∧ waitDoneEnabled s = true
  · obtain ⟨rfl, he⟩ := hdone
    cases (takeTurn_waitDone_of_enabled he).symm.trans h
    obtain ⟨-, -, hdue⟩ := (waitDoneEnabled_iff s).1 he
    have hleft : s.dlyTarget.toNat - s.dlyElapsed.toNat = 0 := by omega
    cases hq : s.seq with
    | idle => exact absurd hq hidle
    | initWait => exact absurd hq hinit
    | txRxWait => simp [ticksLeft, hq, hleft]
    | txSbWait => simp [ticksLeft, hq, hleft]
    | txPwrupWait =>
      rw [waitComplete_txPwrupWait hq, ticksLeft_txStart hwf (by decide), txStart_respLog]
      simp only [ticksLeft, hq, hleft, Nat.zero_add]
      refine ⟨fun _ => Nat.le_add_right _ _, fun hne => ?_⟩
      by_cases hnm : s.txNm = .transmit
      · rw [hnm, minTxTicks_transmit]
      · simp [hnm] at hne
  · have hgo := takeTurn_waitGoesOn hx h hidle fun hw => Bool.eq_false_of_not_eq_true fun he => hdone ⟨hw, he⟩
    refine ⟨fun _ => ?_, fun hne => absurd hgo.respLog hne⟩
    have hconfig := takeTurn_config hx h
    have helapsed := hgo.elapsed
    have htarget := s.dlyTarget.isLt
    simp only [ticksLeft, hgo.seq, hgo.dlyTarget, hgo.txNm, hconfig]
    cases hq : s.seq <;> simp only <;> omega

theorem ticksLeft_le_tickCount {ts : List Turn} {s t : State} (hts : ∀ x ∈ ts, isReset x = false)
    (hwf : s.config.wf = true) (h : runTurns ts s = .next t) (hresp : s.respLog.length < t.respLog.length) :
    ticksLeft s ≤ tickCount ts := by
  induction ts generalizing s with
  | nil =>
    cases h
    omega
  | cons x ts ih =>
    obtain ⟨-, u, hu, h⟩ := runTurns_cons_next h
    have hx := hts x (.head _)
    obtain ⟨hsame, hended⟩ := takeTurn_ticksLeft hx hu hwf
    by_cases hlog : u.respLog = s.respLog
    · have hrest := ih (fun y hy => hts y (.tail _ hy)) (takeTurn_config hx hu ▸ hwf) h (hlog ▸ hresp)
      have hone := hsame hlog
      rw [tickCount_cons]
      omega
    · rw [hended hlog]
      exact Nat.zero_le _

/-- Settles O29: the accept step leaves a TX that needs the ticks of its row, and `ticksLeft_le_tickCount` counts them. -/
theorem txTakesAtLeastItsMinimumTicks : Obligations.TxTakesAtLeastItsMinimumTicks := by
  unfold Obligations.TxTakesAtLeastItsMinimumTicks
  intro s t₀ t nm ca ts hwf _ hfree hexec hts h hresp
  by_cases hnm : nm = .transmit
  · rw [hnm, minTxTicks_transmit]
    exact Nat.zero_le _
  have hconfig : t₀.config.wf = true := exec_command_config (i := .tx nm ca) rfl hexec ▸ hwf
  have accepted (hlog : t₀.respLog = s.respLog) (hleft : ticksLeft t₀ = minTxTicks s.config (mode s) nm) :
      minTxTicks s.config (mode s) nm ≤ tickCount ts :=
    hleft ▸ ticksLeft_le_tickCount hts hconfig h (hlog ▸ hresp)
  obtain ⟨hm, rfl⟩ | ⟨hm, hca, hcd, -⟩ | ⟨hm, -, rfl⟩ := exec_tx_cases hexec
  · exact accepted (by simp [txFromPowerDown_respLog, hnm]) (hm ▸ ticksLeft_txFromPowerDown hwf nm)
  · simp [hm, hca, hcd] at hfree
  · exact accepted (by simp [txStart_respLog, hnm]) (ticksLeft_txStart hwf hm nm)

/-! ## Ticks and a WAIT_DONE -/

/-- `k` ticks and a WAIT_DONE. -/
def stretch (k : Nat) : List Turn := List.replicate k .envTick ++ [.waitDone]

/-- After the ticks the counter holds at least their number, unless it is saturated. -/
theorem runTurns_stretch (k : Nat) {s : State} (hr : s.refused = false) :
    ∃ e, runTurns (stretch k) s = .next (waitDoneTurn { s with now := s.now + k, dlyElapsed := e }) ∧
      min k 65535 ≤ e.toNat := by
  obtain ⟨e, hticks, he⟩ := runTurns_ticks k s hr
  refine ⟨e, (runTurns_append [.waitDone] hticks).trans (runTurns_cons [] hr rfl), ?_⟩
  rw [he]
  split <;> omega

/-- A TX given its response `v` after the responses `log`, with the sequencer idle again. -/
structure Answered (log : List RespRecord) (v : Word) (s : State) : Prop where
  live : s.refused = false
  seq : s.seq = .idle
  respLog : ∃ n, s.respLog = log ++ [⟨n, .tx, v⟩]

/-- A TX in one of its two last waits, whose length is at most `len`. -/
structure InLastWait (log : List RespRecord) (len : Nat) (s : State) : Prop where
  live : s.refused = false
  seq : s.seq = .txRxWait ∨ s.seq = .txSbWait
  respLog : s.respLog = log
  length : s.dlyTarget.toNat ≤ len

theorem answered_stretch {log : List RespRecord} {v : Word} {s : State} (h : Answered log v s) (k : Nat) :
    ∃ t, runTurns (stretch k) s = .next t ∧ Answered log v t := by
  obtain ⟨e, hrun, -⟩ := runTurns_stretch k h.live
  refine ⟨_, hrun, ?_⟩
  rw [waitDoneTurn, if_neg (by simp [waitDoneEnabled, h.seq])]
  exact ⟨h.live, h.seq, h.respLog⟩

/-- R113 and R114: either completion of a last wait responds 1. -/
theorem answered_waitComplete {log : List RespRecord} {len : Nat} {s : State} (h : InLastWait log len s) :
    Answered log 1 (waitComplete s) := by
  obtain hq | hq := h.seq
  · rw [waitComplete_txRxWait hq, lineWrites_eq, ← h.respLog]
    exact ⟨h.live, rfl, s.now, rfl⟩
  · rw [waitComplete_txSbWait hq, lineWrites_eq, ← h.respLog]
    exact ⟨h.live, rfl, s.now, rfl⟩

/-- A last wait ends with the stretch, or had more ticks to wait than the stretch has. -/
theorem lastWait_stretch {log : List RespRecord} {len : Nat} {s : State} (h : InLastWait log len s) (k : Nat) :
    ∃ t, runTurns (stretch k) s = .next t ∧ (Answered log 1 t ∨ k < len ∧ InLastWait log len t) := by
  obtain ⟨e, hrun, he⟩ := runTurns_stretch k h.live
  have hlast : InLastWait log len { s with now := s.now + k, dlyElapsed := e } := ⟨h.live, h.seq, h.respLog, h.length⟩
  refine ⟨_, hrun, ?_⟩
  by_cases hdue : waitDoneEnabled { s with now := s.now + k, dlyElapsed := e } = true
  · rw [waitDoneTurn, if_pos hdue]
    exact .inl (answered_waitComplete hlast)
  · have hbusy : s.seq ≠ .idle := by obtain hq | hq := h.seq <;> simp [hq]
    have hlate : e.toNat < s.dlyTarget.toNat := by
      by_contra hlt
      exact hdue ((waitDoneEnabled_iff _).2 ⟨h.live, hbusy, Nat.le_of_not_lt hlt⟩)
    have hlen := h.length
    have htarget := s.dlyTarget.isLt
    rw [waitDoneTurn, if_neg hdue]
    exact .inr ⟨by omega, hlast⟩

/-- TxStart with a next mode to wait for leads to a last wait, no longer than the longer of its two lengths. -/
theorem inLastWait_txStart {s : State} {nm : NextMode} (hr : s.refused = false) (hwf : s.config.wf = true)
    (hnm : nm ≠ .transmit) (m : Mode) :
    InLastWait s.respLog (max s.config.tTxpulse s.config.tSettle) (txStart nm m s) := by
  obtain ⟨-, -, -, hpulse, hsettle, -⟩ := s.config.wf_iff.1 hwf
  have hlog : (txStart nm m s).respLog = s.respLog := by simp [txStart_respLog, hnm]
  have hlive : (txStart nm m s).refused = false := by simpa using hr
  obtain ⟨-, h⟩ | ⟨hseq, -, htarget, -⟩ | ⟨hseq, -, -, htarget⟩ := txStart_wait nm m s
  · exact absurd h hnm
  · refine ⟨hlive, .inr hseq, hlog, ?_⟩
    rw [htarget, ofNat_toNat_of_fits hsettle]
    exact le_max_right _ _
  · refine ⟨hlive, .inl hseq, hlog, ?_⟩
    rw [htarget, ofNat_toNat_of_fits (by split <;> assumption)]
    split
    · exact le_max_left _ _
    · exact le_max_right _ _

theorem answered_txStart_transmit {s : State} (hr : s.refused = false) (m : Mode) :
    Answered s.respLog 1 (txStart .transmit m s) := by
  rw [txStart_transmit, lineWrites_eq]
  exact ⟨hr, rfl, s.now, rfl⟩

/-- R111: the power-up wait ends with a stretch that is no shorter, and a last wait follows. -/
theorem pwrupWait_stretch {s : State} (hr : s.refused = false) (hwf : s.config.wf = true) (hseq : s.seq = .txPwrupWait)
    (hnm : s.txNm ≠ .transmit) {k : Nat} (hk : s.dlyTarget.toNat ≤ k) :
    ∃ t, runTurns (stretch k) s = .next t ∧ InLastWait s.respLog (max s.config.tTxpulse s.config.tSettle) t := by
  obtain ⟨e, hrun, he⟩ := runTurns_stretch k hr
  have hdue : waitDoneEnabled { s with now := s.now + k, dlyElapsed := e } = true := by
    have := s.dlyTarget.isLt
    exact (waitDoneEnabled_iff _).2 ⟨hr, by simp [hseq], by simp only; omega⟩
  refine ⟨_, hrun, ?_⟩
  rw [waitDoneTurn, if_pos hdue, waitComplete_txPwrupWait (by exact hseq)]
  exact inLastWait_txStart (s := { s with now := s.now + k, dlyElapsed := e }) hr hwf hnm .standby

theorem answered_stretches {log : List RespRecord} {v : Word} {s : State} (h : Answered log v s) (n m : Nat) :
    ∃ t, runTurns (stretch n ++ stretch m) s = .next t ∧ Answered log v t := by
  obtain ⟨u, hu, ha⟩ := answered_stretch h n
  obtain ⟨t, ht, ha⟩ := answered_stretch ha m
  exact ⟨t, (runTurns_append _ hu).trans ht, ha⟩

/-- A stretch that is long enough ends a last wait. -/
theorem answered_of_long_stretch {log : List RespRecord} {len k : Nat} {s : State} (h : InLastWait log len s)
    (hk : len ≤ k) : ∃ t, runTurns (stretch k) s = .next t ∧ Answered log 1 t := by
  obtain ⟨t, ht, ha | ⟨hlt, -⟩⟩ := lastWait_stretch h k
  · exact ⟨t, ht, ha⟩
  · omega

theorem lastWait_stretches {log : List RespRecord} {len m : Nat} {s : State} (h : InLastWait log len s) (n : Nat)
    (hm : len ≤ m) : ∃ t, runTurns (stretch n ++ stretch m) s = .next t ∧ Answered log 1 t := by
  obtain ⟨u, hu, ha | ⟨-, hw⟩⟩ := lastWait_stretch h n
  · obtain ⟨t, ht, ha⟩ := answered_stretch ha m
    exact ⟨t, (runTurns_append _ hu).trans ht, ha⟩
  · obtain ⟨t, ht, ha⟩ := answered_of_long_stretch hw hm
    exact ⟨t, (runTurns_append _ hu).trans ht, ha⟩

@[simp] theorem powerUp_refused (s : State) : (powerUp s).refused = s.refused := by rw [powerUp, lineWrites_eq]
@[simp] theorem powerUp_respLog (s : State) : (powerUp s).respLog = s.respLog := by rw [powerUp, lineWrites_eq]

/-- From POWER_DOWN: TRANSMIT is answered at once, and the others after the power-up wait and a last wait. -/
theorem txFromPowerDown_stretches {s : State} (hr : s.refused = false) (hwf : s.config.wf = true) (nm : NextMode) {n m : Nat}
    (hn : s.config.tPwrup ≤ n) (hm : max s.config.tTxpulse s.config.tSettle ≤ m) :
    ∃ t, runTurns (stretch n ++ stretch m) (txFromPowerDown nm s) = .next t ∧ Answered s.respLog 1 t := by
  by_cases hnm : nm = .transmit
  · have := answered_txStart_transmit (s := powerUp s) (by simpa using hr) .standby
    rw [powerUp_respLog] at this
    rw [hnm, txFromPowerDown_transmit]
    exact answered_stretches this n m
  · obtain ⟨-, -, hpwrup, -⟩ := s.config.wf_iff.1 hwf
    obtain ⟨u, hu, hw⟩ := pwrupWait_stretch (s := txFromPowerDown nm s) (k := n) (by simpa using hr) (by simpa using hwf)
      (by rw [txFromPowerDown_of_ne hnm]; rfl) (by simpa [txFromPowerDown_of_ne hnm] using hnm)
      (by rwa [txFromPowerDown_of_ne hnm, startWait_dlyTarget, ofNat_toNat_of_fits hpwrup])
    simp only [txFromPowerDown_respLog, hnm, if_false, List.append_nil, txFromPowerDown_config] at hw
    obtain ⟨t, ht, ha⟩ := answered_of_long_stretch hw hm
    exact ⟨t, (runTurns_append _ hu).trans ht, ha⟩

/-- From a powered mode with a free channel: TRANSMIT is answered at once, and the others after a last wait. -/
theorem txStart_stretches {s : State} (hr : s.refused = false) (hwf : s.config.wf = true) (nm : NextMode) (mo : Mode)
    (n : Nat) {m : Nat} (hm : max s.config.tTxpulse s.config.tSettle ≤ m) :
    ∃ t, runTurns (stretch n ++ stretch m) (txStart nm mo s) = .next t ∧ Answered s.respLog 1 t := by
  by_cases hnm : nm = .transmit
  · exact answered_stretches (hnm ▸ answered_txStart_transmit hr mo) n m
  · exact lastWait_stretches (inLastWait_txStart hr hwf hnm mo) n hm

/-- Settles O30: in each of the accept step's cases the two stretches end with the TX answered. -/
theorem txRespondsOnceAfterItsWaits : Obligations.TxRespondsOnceAfterItsWaits := by
  unfold Obligations.TxRespondsOnceAfterItsWaits
  intro s nm ca n m hp hn hm hwf
  obtain ⟨hr, -, -⟩ := (portOpen_iff s).1 hp
  obtain ⟨t₀, hexec⟩ := exec_next (.tx nm ca) s
  have answered : ∃ t, runTurns (stretch n ++ stretch m) t₀ = .next t ∧
      Answered s.respLog (if mode s ≠ .powerDown ∧ ca = true ∧ cdRead s = true then 0x00#8 else 0x01#8) t := by
    obtain ⟨hmode, rfl⟩ | ⟨hmode, hca, hcd, rfl⟩ | ⟨-, hfree, rfl⟩ := exec_tx_cases hexec
    · rw [if_neg (by simp [hmode])]
      exact txFromPowerDown_stretches hr hwf nm hn hm
    · rw [if_pos ⟨hmode, hca, hcd⟩]
      exact answered_stretches (s := respond .tx 0 s) ⟨hr, rfl, s.now, rfl⟩ n m
    · rw [if_neg (by rw [← Bool.and_eq_true, hfree]; simp)]
      exact txStart_stretches hr hwf nm (mode s) n hm
  obtain ⟨t, hrun, ⟨-, hseq, k, hlog⟩⟩ := answered
  exact ⟨t₀, t, _, hexec, by simpa [stretch] using hrun, hseq, by simp [hlog], by simp [hlog], rfl⟩

/-! ## The reset settle wait -/

theorem exec_command_initDone {i : Instr} {s t : State} (hi : i.isCommand = true) (h : exec i s = .next t) :
    t.initDone = s.initDone := by
  obtain rfl | rfl | rfl | rfl | ⟨_, rfl⟩ | ⟨-, rfl⟩ | ⟨-, rfl⟩ | ⟨-, _, rfl⟩ | ⟨-, rfl⟩ | ⟨-, _, rfl⟩ :=
    exec_command_cases hi h <;> simp

/-- R202: a turn that leaves the initialization undone found it so and gave no response. -/
theorem takeTurn_before_initDone {x : Turn} {s t : State} (hx : isReset x = false) (h : takeTurn x s = .next t) :
    BlockInv s → t.initDone = false → s.initDone = false ∧ t.respLog = s.respLog := by
  have open_initDone {s : State} (hp : portOpen s = true) : s.initDone = true := ((portOpen_iff s).1 hp).2.1
  refine takeTurn_elim h (fun s t => BlockInv s → t.initDone = false → s.initDone = false ∧ t.respLog = s.respLog)
    ?hold ?command ?refuse ?waitDone ?irqDr ?irqAm ?status ?carrier ?tick ?line ?reset
  case command =>
    intro s ws n i hi hp t he _ _ ht
    have hinit : t.initDone = s.initDone := exec_command_initDone (s := { s with host := ws, freeCount := n }) hi he
    simp [hinit, open_initDone hp] at ht
  case refuse =>
    intro s ws n r hp _ _ _ ht
    simp [open_initDone hp] at ht
  case waitDone =>
    intro s he _ hs ht
    obtain ⟨hr, -, -⟩ := (waitDoneEnabled_iff s).1 he
    have hinit : s.initDone = false := by
      by_contra hdone
      simp [waitComplete_initDone s (Bool.eq_true_of_not_eq_false hdone)] at ht
    simp [waitComplete_initWait (hs.notInit hr hinit), initDoneStep] at ht
  case reset =>
    rintro _ _ _ _ _ rfl
    cases hx
  case hold => exact fun s _ ht => ⟨ht, rfl⟩
  case carrier => exact fun s _ _ _ ht => ⟨ht, rfl⟩
  case tick => exact fun s _ _ ht => ⟨ht, rfl⟩
  case status => exact fun s _ _ _ _ ht => ⟨ht, rfl⟩
  all_goals
    intros
    rename_i ht
    exact ⟨by simpa using ht, by simp⟩

/-- The reset state, with any words at the host, meets the block's invariant (O54). -/
theorem blockInv_resetStep (c : Config) (dr am cd : Bool) (ws : List Word) :
    BlockInv { resetStep c dr am cd with host := ws } := by
  rw [resetProcedureGivesTheResetTable c dr am cd]
  exact (resetMeetsInvariant c dr am cd ws []).of_lists ws (State.resetWith c dr am cd).schedule
    (State.resetWith c dr am cd).freeCount

/-- Along any run from reset, as long as the initialization is not done, no response has been given. -/
theorem run_before_initDone {ts : List Turn} {s u : State} (hts : ∀ x ∈ ts, isReset x = false) (hs : BlockInv s)
    (hlog : s.respLog = []) (h : runTurns ts s = .next u) : BlockInv u ∧ (u.initDone = false → u.respLog = []) := by
  refine runTurns_keeps (fun u => BlockInv u ∧ (u.initDone = false → u.respLog = [])) (fun x => isReset x = false) ?_ hts
    ⟨hs, fun _ => hlog⟩ h
  rintro x s t hx ⟨hs, hlog⟩ ht
  refine ⟨takeTurn_keeps_blockInv ht hs, fun hinit => ?_⟩
  obtain ⟨hinit', hsame⟩ := takeTurn_before_initDone hx ht hs hinit
  rw [hsame, hlog hinit']

/-- Settles O51: T_INIT ticks make the settle wait's WAIT_DONE due (`runTurns_stretch`), fewer do not (O28), and the
invariant with `run_before_initDone` says what holds until then. -/
theorem initializationOpensThePort : Obligations.InitializationOpensThePort := by
  unfold Obligations.InitializationOpensThePort
  intro c dr am cd hwf
  obtain ⟨-, -, -, -, hseq, -, htarget, helapsed, hinit, -, -, -, -, -, -, -, -, -, hr, -, hnow, hresp, -, -, hmode⟩ :=
    resetValues c dr am cd hwf
  obtain ⟨-, -, -, -, -, hfits⟩ := c.wf_iff.1 hwf
  refine ⟨fun n hn => ?opens, fun ws ts hts => ⟨fun hticks => ?early, fun u hu hdone => ?closed⟩⟩
  case opens =>
    obtain ⟨e, hrun, he⟩ := runTurns_stretch n hr
    refine ⟨_, hrun, ?_⟩
    rw [waitDoneTurn, if_pos, waitComplete_initWait (by exact hseq)]
    · exact ⟨(portOpen_iff _).2 ⟨hr, rfl, rfl⟩, hresp, by simp [initDoneStep, hnow], hmode⟩
    · exact (waitDoneEnabled_iff _).2 ⟨hr, by simp [hseq], by simp only; omega⟩
  case early =>
    obtain ⟨u, hu, -, -, -, -, -, hsame, -⟩ :=
      waitsNeverEndEarly ts { resetStep c dr am cd with host := ws } hr (by simp [hseq]) hts
        (by rw [htarget, helapsed]; simpa using hticks)
    exact ⟨u, hu, hsame.trans hinit⟩
  case closed =>
    obtain ⟨hinv, hlog⟩ := run_before_initDone hts (blockInv_resetStep c dr am cd ws) hresp hu
    have unlatched {p : Prop} (hp : p → u.irqDrPend = true ∨ u.irqAmPend = true) : ¬ p := fun h => by
      simpa [hdone] using (hinv.latches (hp h)).2
    exact ⟨by simp [portOpen, hdone], Bool.eq_false_of_not_eq_true (unlatched .inl),
      Bool.eq_false_of_not_eq_true (unlatched .inr), hlog hdone⟩

end Sys2Proof.Machine
end

section
/-! SUPPORT. Weakly fair runs (spec/00_scope.md R13, 60_exceptions.md R173, R176). Lemmas: a wait that no WAIT_DONE ended
would be due from some point on, which fairness excludes, and each completion leaves fewer waits ahead; a latch that its
handler never served would stay set. -/

namespace Sys2Proof.Machine

/-! ## Waits end -/

/-- The completions still ahead of the sequencer before it is idle. -/
def waitsAhead : Seq → Nat
  | .idle => 0
  | .initWait => 1
  | .txPwrupWait => 2
  | .txRxWait => 1
  | .txSbWait => 1

theorem waitsAhead_txStart (nm : NextMode) (m : Mode) (s : State) : waitsAhead (txStart nm m s).seq ≤ 1 := by
  obtain ⟨h, -⟩ | ⟨h, -⟩ | ⟨h, -⟩ := txStart_wait nm m s <;> simp [h, waitsAhead]

theorem waitsAhead_waitComplete {s : State} (h : s.seq ≠ .idle) :
    waitsAhead (waitComplete s).seq < waitsAhead s.seq := by
  cases hq : s.seq with
  | idle => exact absurd hq h
  | initWait => rw [waitComplete_initWait hq]; exact Nat.zero_lt_one
  | txPwrupWait => rw [waitComplete_txPwrupWait hq]; exact Nat.lt_succ_of_le (waitsAhead_txStart ..)
  | txRxWait => rw [waitComplete_txRxWait hq]; exact Nat.zero_lt_one
  | txSbWait => rw [waitComplete_txSbWait hq]; exact Nat.zero_lt_one

section Fair

variable {turn : Nat → Turn} {st : Nat → State}

theorem elapsed_mono {n : Nat} (hgo : ∀ m, n ≤ m → WaitGoesOn (turn m) (st m) (st (m + 1))) {m k : Nat} (hm : n ≤ m)
    (hk : m ≤ k) : (st m).dlyElapsed.toNat ≤ (st k).dlyElapsed.toNat := by
  induction k, hk using Nat.le_induction with
  | base => exact le_rfl
  | succ k hk ih =>
    have := (hgo k (by omega)).elapsed
    have := (st k).dlyElapsed.isLt
    omega

/-- Ticks occur without end, so the counter of a wait that goes on for ever reaches every value it can hold. -/
theorem elapsed_reaches (fair : WeaklyFair turn st) {n : Nat}
    (hgo : ∀ m, n ≤ m → WaitGoesOn (turn m) (st m) (st (m + 1))) (k : Nat) (hk : k ≤ 65535) :
    ∃ m, n ≤ m ∧ k ≤ (st m).dlyElapsed.toNat := by
  induction k with
  | zero => exact ⟨n, le_rfl, Nat.zero_le _⟩
  | succ k ih =>
    obtain ⟨m, hm, helapsed⟩ := ih (by omega)
    obtain ⟨m', hm', htick⟩ := fair.ticks m
    have hlater := elapsed_mono hgo hm hm'
    have htaken := (hgo m' (by omega)).elapsed
    rw [htick] at htaken
    simp only [isTick, if_true] at htaken
    exact ⟨m' + 1, by omega, by omega⟩

/-- The turn taken at `m` is a WAIT_DONE that is due. -/
def CompletesAt (turn : Nat → Turn) (st : Nat → State) (m : Nat) : Prop :=
  turn m = .waitDone ∧ waitDoneEnabled (st m) = true

theorem waitGoesOn_of_not_completesAt (run : IsRun turn st) {m : Nat} (hq : (st m).seq ≠ .idle)
    (hno : ¬ CompletesAt turn st m) : WaitGoesOn (turn m) (st m) (st (m + 1)) :=
  takeTurn_waitGoesOn (run.noReset m) (run.taken m) hq fun hx => Bool.eq_false_of_not_eq_true fun he => hno ⟨hx, he⟩

/-- Up to its completion the wait at `n` is the same wait. -/
theorem same_wait_until (run : IsRun turn st) {n : Nat} (hq : (st n).seq ≠ .idle) {m : Nat} (hm : n ≤ m)
    (hno : ∀ k, n ≤ k → k < m → ¬ CompletesAt turn st k) :
    (st m).seq = (st n).seq ∧ (st m).dlyTarget = (st n).dlyTarget := by
  induction m, hm using Nat.le_induction with
  | base => exact ⟨rfl, rfl⟩
  | succ m hm ih =>
    obtain ⟨hseq, htarget⟩ := ih fun k hk hkm => hno k hk (by omega)
    have hgo := waitGoesOn_of_not_completesAt run (hseq ▸ hq) (hno m hm (Nat.lt_succ_self m))
    exact ⟨hgo.seq.trans hseq, hgo.dlyTarget.trans htarget⟩

/-- R13: a wait that never completed would become due and stay so, and then a WAIT_DONE is taken. -/
theorem exists_completesAt (run : IsRun turn st) (fair : WeaklyFair turn st) {n : Nat} (hq : (st n).seq ≠ .idle) :
    ∃ m, n ≤ m ∧ CompletesAt turn st m := by
  by_contra hnone
  push Not at hnone
  have same (m : Nat) (hm : n ≤ m) := same_wait_until run hq hm fun k hk _ => hnone k hk
  have busy (m : Nat) (hm : n ≤ m) : (st m).seq ≠ .idle := (same m hm).1 ▸ hq
  have hgo (m : Nat) (hm : n ≤ m) := waitGoesOn_of_not_completesAt run (busy m hm) (hnone m hm)
  obtain ⟨k, hk, hdue⟩ := elapsed_reaches fair hgo (st n).dlyTarget.toNat (by have := (st n).dlyTarget.isLt; omega)
  obtain ⟨m, hm, hturn⟩ := fair.waitDone k fun m hm => by
    have hlater := elapsed_mono hgo hk hm
    refine (waitDoneEnabled_iff _).2 ⟨run.live m, busy m (by omega), ?_⟩
    rw [(same m (by omega)).2]
    omega
  refine hnone m (by omega) ⟨hturn, (waitDoneEnabled_iff _).2 ⟨run.live m, busy m (by omega), ?_⟩⟩
  have hlater := elapsed_mono hgo hk hm
  rw [(same m (by omega)).2]
  omega

/-- The first completion after `n` is that of the wait at `n`. -/
theorem wait_completes (run : IsRun turn st) (fair : WeaklyFair turn st) {n : Nat} (hq : (st n).seq ≠ .idle) :
    ∃ m, n ≤ m ∧ (st m).seq = (st n).seq ∧ st (m + 1) = waitComplete (st m) := by
  classical
  have hex := exists_completesAt run fair hq
  obtain ⟨hm, hturn, he⟩ := Nat.find_spec hex
  have hfirst (k : Nat) (hk : n ≤ k) (hlt : k < Nat.find hex) : ¬ CompletesAt turn st k :=
    fun hc => Nat.find_min hex hlt ⟨hk, hc⟩
  have htaken := run.taken (Nat.find hex)
  rw [hturn, takeTurn_waitDone_of_enabled he] at htaken
  exact ⟨_, hm, (same_wait_until run hq hm hfirst).1, (Host.Outcome.next.inj htaken).symm⟩

/-- R173: from any point the sequencer is idle again at some later one. -/
theorem idle_again (run : IsRun turn st) (fair : WeaklyFair turn st) (n : Nat) : ∃ m, n ≤ m ∧ (st m).seq = .idle := by
  induction h : waitsAhead (st n).seq using Nat.strong_induction_on generalizing n with
  | _ r ih =>
    by_cases hq : (st n).seq = .idle
    · exact ⟨n, le_rfl, hq⟩
    · obtain ⟨m, hm, hseq, hdone⟩ := wait_completes run fair hq
      have hfewer : waitsAhead (st (m + 1)).seq < r := by
        rw [hdone, ← h, ← hseq]
        exact waitsAhead_waitComplete (hseq ▸ hq)
      obtain ⟨k, hk, hidle⟩ := ih _ hfewer (m + 1) rfl
      exact ⟨k, by omega, hidle⟩

end Fair

theorem blockInv_along_run {turn : Nat → Turn} {st : Nat → State} (run : IsRun turn st) (h : BlockInv (st 0)) (n : Nat) :
    BlockInv (st n) := by
  induction n with
  | zero => exact h
  | succ n ih => exact takeTurn_keeps_blockInv (run.taken n) ih

/-- Settles O31: the sequencer is idle again (`idle_again`), and by the invariant an idle one is initialized. -/
theorem fairRunsReopenTheCommandPort : Obligations.FairRunsReopenTheCommandPort := by
  unfold Obligations.FairRunsReopenTheCommandPort
  intro turn st run fair hinv n
  obtain ⟨m, hm, hidle⟩ := idle_again run fair n
  refine ⟨m, hm, (portOpen_iff _).2 ⟨run.live m, ?_, hidle⟩⟩
  by_contra h
  have := (blockInv_along_run run hinv m).notInit (run.live m) (Bool.eq_false_of_not_eq_true h)
  simp [hidle] at this

/-! ## Interrupts are served -/

/-- What every turn but `own` keeps, a run keeps until the first turn of `own` that finds it. -/
theorem kept_until {turn : Nat → Turn} {st : Nat → State} {P : State → Prop} {own : Turn}
    (keep : ∀ m, turn m ≠ own → P (st m) → P (st (m + 1))) {n : Nat} (hn : P (st n))
    (hno : ∀ m, n ≤ m → turn m = own → ¬ P (st m)) (m : Nat) (hm : n ≤ m) : P (st m) := by
  induction m, hm using Nat.le_induction with
  | base => exact hn
  | succ m hm ih => exact keep m (fun hown => hno m hm hown ih) ih

/-- Settles O32: a latch whose handler's turn never came with it set would stay set (`takeTurn_latchesHeld`), so its step
would stay enabled, and fairness gives the turn after all. -/
theorem fairRunsServeEveryPendingInterrupt : Obligations.FairRunsServeEveryPendingInterrupt := by
  unfold Obligations.FairRunsServeEveryPendingInterrupt
  intro turn st run fair n
  have held (m : Nat) : LatchesHeld (turn m) (st m) (st (m + 1)) := takeTurn_latchesHeld (run.noReset m) (run.taken m)
  refine ⟨fun hn => ?dr, fun hn => ?am⟩ <;> by_contra hnone <;> push Not at hnone
  case dr =>
    have kept := kept_until (P := fun s => s.irqDrPend = true) (fun m hx hs => (held m).1 hs hx) hn hnone
    obtain ⟨m, hm, hturn⟩ := fair.irqDr n fun m hm => by simp [irqDrEnabled, kept m hm, run.live m]
    exact hnone m hm hturn (kept m hm)
  case am =>
    have kept := kept_until (P := fun s => s.irqAmPend = true) (fun m hx hs => (held m).2 hs hx) hn hnone
    obtain ⟨m, hm, hturn⟩ := fair.irqAm n fun m hm => by simp [irqAmEnabled, kept m hm, run.live m]
    exact hnone m hm hturn (kept m hm)

end Sys2Proof.Machine
end

section
/-! SUPPORT. What a turn does not read (spec/10_state.md R34, 20_memory.md R56, R60, 60_exceptions.md R174, R183). Three groups
of registers are erased in turn: time and the logs, which nothing reads; the model's own schedule, which only the choice of
the next turn reads; and what the handler steps write, which no command and no completion reads. -/

namespace Sys2Proof.Machine

/-! ## Erasing registers -/

/-- A group of registers that a turn, or a part of one, does not read. -/
inductive Unread where
  | time
  | schedule (ts : List Turn)
  | served (irqDrPend irqAmPend pending : Bool) (evtLog : List EventRecord)

/-- The state with the group's registers at fixed values. -/
def Unread.erase (u : Unread) (s : State) : State :=
  match u with
  | .time => { s with now := 0, lineTrace := [], respLog := [], evtLog := [] }
  | .schedule ts => { s with schedule := ts }
  | .served dr am p log => { s with irqDrPend := dr, irqAmPend := am, pending := p, evtLog := log }

/-- The group of what the handler steps write. -/
def Unread.isServed : Unread → Bool
  | .served _ _ _ _ => true
  | _ => false

/-- Both outcomes are next states, which agree once the group is erased. -/
def AgreeUpTo (u : Unread) (o o' : Host.Outcome State Fault Refusal) : Prop :=
  ∃ t t', o = .next t ∧ o' = .next t' ∧ u.erase t' = u.erase t

theorem Unread.erase_erase (u : Unread) (s : State) : u.erase (u.erase s) = u.erase s := by cases u <;> rfl

theorem mode_erase (u : Unread) (s : State) : mode (u.erase s) = mode s := by cases u <;> rfl

theorem cdRead_erase (u : Unread) (s : State) : cdRead (u.erase s) = cdRead s := by cases u <;> rfl

theorem portOpen_erase (u : Unread) (s : State) : portOpen (u.erase s) = portOpen s := by cases u <;> rfl

theorem waitDoneEnabled_erase (u : Unread) (s : State) : waitDoneEnabled (u.erase s) = waitDoneEnabled s := by
  cases u <;> rfl

theorem seq_erase (u : Unread) (s : State) : (u.erase s).seq = s.seq := by cases u <;> rfl

theorem refused_erase (u : Unread) (s : State) : (u.erase s).refused = s.refused := by cases u <;> rfl

theorem refuseReason_erase (u : Unread) (s : State) : (u.erase s).refuseReason = s.refuseReason := by cases u <;> rfl

/-! ## Commands and completions -/

theorem txStart_erase (u : Unread) (nm : NextMode) (m : Mode) (s : State) :
    u.erase (txStart nm m (u.erase s)) = u.erase (txStart nm m s) := by
  cases nm <;> simp only [txStart_transmit, txStart_standby, txStart_receive, lineWrites_eq, writesTo_eq_filter] <;>
    cases u <;> rfl

theorem powerUp_erase (u : Unread) (s : State) : u.erase (powerUp (u.erase s)) = u.erase (powerUp s) := by
  simp only [powerUp, lineWrites_eq]
  cases u <;> rfl

theorem txFromPowerDown_erase (u : Unread) (nm : NextMode) (s : State) :
    u.erase (txFromPowerDown nm (u.erase s)) = u.erase (txFromPowerDown nm s) := by
  by_cases hnm : nm = .transmit
  · simp only [hnm, txFromPowerDown_transmit]
    rw [← txStart_erase, powerUp_erase, txStart_erase]
  · simp only [txFromPowerDown_of_ne hnm, powerUp, lineWrites_eq]
    cases u <;> rfl

theorem waitComplete_erase (u : Unread) (s : State) : u.erase (waitComplete (u.erase s)) = u.erase (waitComplete s) := by
  have hseq := seq_erase u s
  cases h : s.seq <;> rw [h] at hseq
  case idle => simp [waitComplete, h, hseq, u.erase_erase]
  case initWait => rw [waitComplete_initWait h, waitComplete_initWait hseq]; cases u <;> rfl
  case txPwrupWait =>
    rw [waitComplete_txPwrupWait h, waitComplete_txPwrupWait hseq, show (u.erase s).txNm = s.txNm by cases u <;> rfl,
      txStart_erase]
  case txRxWait =>
    rw [waitComplete_txRxWait h, waitComplete_txRxWait hseq, lineWrites_eq, lineWrites_eq]
    cases u <;> rfl
  case txSbWait =>
    rw [waitComplete_txSbWait h, waitComplete_txSbWait hseq, lineWrites_eq, lineWrites_eq]
    cases u <;> rfl

theorem waitDoneTurn_erase (u : Unread) (s : State) : u.erase (waitDoneTurn (u.erase s)) = u.erase (waitDoneTurn s) := by
  unfold waitDoneTurn
  rw [waitDoneEnabled_erase]
  split
  · exact waitComplete_erase u s
  · exact u.erase_erase s

theorem exec_tx_erase (u : Unread) (nm : NextMode) (ca : Bool) (s : State) :
    AgreeUpTo u (exec (.tx nm ca) s) (exec (.tx nm ca) (u.erase s)) := by
  simp only [exec, execTx, mode_erase, cdRead_erase]
  split
  · exact ⟨_, _, rfl, rfl, txFromPowerDown_erase u nm s⟩
  · split
    · exact ⟨_, _, rfl, rfl, by cases u <;> rfl⟩
    · exact ⟨_, _, rfl, rfl, txStart_erase u nm (mode s) s⟩

theorem exec_poll_erase (u : Unread) (s : State) : AgreeUpTo u (exec .poll s) (exec .poll (u.erase s)) := by
  have hconfig : (u.erase s).config = s.config := by cases u <;> rfl
  cases hd : s.config.disc with
  | polled =>
    rw [exec_poll_of_polled hd, exec_poll_of_polled (hconfig ▸ hd)]
    refine ⟨_, _, rfl, rfl, ?_⟩
    rw [pollStep_eq, pollStep_eq]
    cases u <;> rfl
  | interruptDriven =>
    rw [exec_poll_of_interruptDriven hd, exec_poll_of_interruptDriven (hconfig ▸ hd)]
    exact ⟨_, _, rfl, rfl, by cases u <;> rfl⟩

theorem exec_command_erase (u : Unread) {i : Instr} (hi : i.isCommand = true) (s : State) :
    AgreeUpTo u (exec i s) (exec i (u.erase s)) := by
  cases i with
  | pwrdn => exact ⟨_, _, exec_pwrdn_eq s, exec_pwrdn_eq _, by rw [lineWrite_pwr, lineWrite_pwr]; cases u <;> rfl⟩
  | stby => exact ⟨_, _, exec_stby_eq s, exec_stby_eq _, by rw [lineWrites_eq, lineWrites_eq]; cases u <;> rfl⟩
  | rx => exact ⟨_, _, exec_rx_eq s, exec_rx_eq _, by rw [lineWrites_eq, lineWrites_eq]; cases u <;> rfl⟩
  | mode => exact ⟨_, _, exec_mode_eq s, exec_mode_eq _, by rw [mode_erase]; cases u <;> rfl⟩
  | setcb mask => exact ⟨_, _, rfl, rfl, by cases u <;> rfl⟩
  | tx nm ca => exact exec_tx_erase u nm ca s
  | poll => exact exec_poll_erase u s
  | irqDr => cases hi
  | irqAm => cases hi

/-! ## Turns -/

theorem acceptWord_erase (u : Unread) (w : Word) (s : State) : AgreeUpTo u (acceptWord w s) (acceptWord w (u.erase s)) := by
  cases hw : decodeCommand w with
  | instr i =>
    rw [acceptWord_of_instr hw, acceptWord_of_instr hw]
    exact exec_command_erase u (encodeOfDecodedWord w i hw).1 s
  | refuse r =>
    rw [acceptWord_of_refuse hw, acceptWord_of_refuse hw]
    exact ⟨_, _, rfl, rfl, by cases u <;> rfl⟩

theorem hostTurn_erase (u : Unread) (s : State) : AgreeUpTo u (hostTurn s) (hostTurn (u.erase s)) := by
  have hhost : (u.erase s).host = s.host := by cases u <;> rfl
  have hfree : (u.erase s).freeCount = s.freeCount := by cases u <;> rfl
  unfold hostTurn
  rw [portOpen_erase, hhost, hfree]
  split
  · split
    · next w ws _ => cases u <;> exact acceptWord_erase _ w { s with host := ws }
    · cases u <;> exact acceptWord_erase _ _ { s with freeCount := s.freeCount + 1 }
  · exact ⟨_, _, rfl, rfl, u.erase_erase s⟩

theorem exec_irqDr_erase (u : Unread) (hu : u.isServed = false) (s : State) :
    AgreeUpTo u (exec .irqDr s) (exec .irqDr (u.erase s)) := by
  refine ⟨_, _, dataReadyHandlerClassifiesByAddressMatch s, dataReadyHandlerClassifiesByAddressMatch _, ?_⟩
  cases u with
  | served => cases hu
  | _ => rfl

theorem exec_irqAm_erase (u : Unread) (hu : u.isServed = false) (s : State) :
    AgreeUpTo u (exec .irqAm s) (exec .irqAm (u.erase s)) := by
  refine ⟨_, _, addressMatchHandlerClassifiesByPending s, addressMatchHandlerClassifiesByPending _, ?_⟩
  cases u with
  | served => cases hu
  | _ => rfl

theorem handlersEnabled_erase (u : Unread) (hu : u.isServed = false) (s : State) :
    irqDrEnabled (u.erase s) = irqDrEnabled s ∧ irqAmEnabled (u.erase s) = irqAmEnabled s := by
  cases u with
  | served => cases hu
  | _ => exact ⟨rfl, rfl⟩

theorem envLine_erase (u : Unread) (l : Line) (v : Bool) (s : State) :
    u.erase (envLine l v (u.erase s)) = u.erase (envLine l v s) := by
  have hline : (u.erase s).config.hasLine l = s.config.hasLine l := by cases u <;> rfl
  unfold envLine
  rw [hline]
  split
  · cases u <;> cases l <;> rfl
  · exact u.erase_erase s

/-- No turn reads time, the logs or the schedule. -/
theorem takeTurn_erase (u : Unread) (hu : u.isServed = false) (x : Turn) (s : State) :
    AgreeUpTo u (takeTurn x s) (takeTurn x (u.erase s)) := by
  obtain ⟨hdr, ham⟩ := handlersEnabled_erase u hu s
  cases x with
  | host => exact hostTurn_erase u s
  | waitDone => exact ⟨_, _, rfl, rfl, waitDoneTurn_erase u s⟩
  | irqDr =>
    simp only [takeTurn, irqDrTurn, hdr]
    split
    · exact exec_irqDr_erase u hu s
    · exact ⟨_, _, rfl, rfl, u.erase_erase s⟩
  | irqAm =>
    simp only [takeTurn, irqAmTurn, ham]
    split
    · exact exec_irqAm_erase u hu s
    · exact ⟨_, _, rfl, rfl, u.erase_erase s⟩
  | envLine l v => exact ⟨_, _, rfl, rfl, envLine_erase u l v s⟩
  | _ => exact ⟨_, _, rfl, rfl, by cases u <;> rfl⟩

/-! ## The schedule -/

theorem exec_command_schedule {i : Instr} {s t : State} (hi : i.isCommand = true) (h : exec i s = .next t) :
    t.schedule = s.schedule := by
  obtain rfl | rfl | rfl | rfl | ⟨_, rfl⟩ | ⟨-, rfl⟩ | ⟨-, rfl⟩ | ⟨-, _, rfl⟩ | ⟨-, rfl⟩ | ⟨-, _, rfl⟩ :=
    exec_command_cases hi h <;> simp

theorem takeTurn_schedule {x : Turn} {s t : State} (h : takeTurn x s = .next t) : t.schedule = s.schedule := by
  refine takeTurn_elim h (fun s t => t.schedule = s.schedule) ?hold ?command ?refuse ?waitDone ?irqDr ?irqAm ?status
    ?carrier ?tick ?line ?reset
  case command => exact fun s ws n i hi _ t he _ => exec_command_schedule (s := { s with host := ws, freeCount := n }) hi he
  case hold | refuse | status | carrier | tick | reset => intros; rfl
  all_goals intros; simp

/-- A turn taken with another schedule ahead gives the same state, with that schedule ahead. -/
theorem takeTurn_with_schedule {x : Turn} {s t : State} (h : takeTurn x s = .next t) (ts : List Turn) :
    takeTurn x { s with schedule := ts } = .next { t with schedule := ts } := by
  obtain ⟨t₁, t₂, h₁, h₂, hagree⟩ := takeTurn_erase (.schedule ts) rfl x s
  cases h.symm.trans h₁
  have hkeep : t₂.schedule = ts := takeTurn_schedule h₂
  have hsame : (Unread.schedule ts).erase t₂ = t₂ := by
    subst hkeep
    rfl
  rw [hsame] at hagree
  exact h₂.trans (congrArg _ hagree)

theorem core_run_of_next {s t : State} (n : Nat) (h : step s = .next t) :
    Host.Core.run core (n + 1) s = Host.Core.run core n t := by
  have h : Host.Core.step core s = .next t := h
  simp only [Host.Core.run, h]

theorem core_run_of_refused {s : State} {r : Refusal} (n : Nat) (h : step s = .refused r) :
    Host.Core.run core (n + 1) s = .refused r := by
  have h : Host.Core.step core s = .refused r := h
  simp only [Host.Core.run, h]

/-- Settles O13: by induction on the schedule, a step takes its head, and what is still ahead is not read by it. -/
theorem scheduleStepsAreTurns : Obligations.ScheduleStepsAreTurns := by
  unfold Obligations.ScheduleStepsAreTurns
  intro ts
  induction ts with
  | nil => exact fun s => rfl
  | cons x ts ih =>
    intro s
    by_cases hr : s.refused = true
    · have hstep : step { s with schedule := x :: ts } = .refused (.runRefused s.refuseReason) := step_of_refused hr
      rw [List.length_cons, core_run_of_refused _ hstep, runTurns, if_pos (by exact hr)]
      rfl
    · have hr : s.refused = false := Bool.eq_false_of_not_eq_true hr
      obtain ⟨t, ht⟩ := takeTurn_next x s
      have hstep : step { s with schedule := x :: ts } = .next { t with schedule := ts } :=
        (step_schedule s x ts hr).trans (takeTurn_with_schedule ht ts)
      rw [List.length_cons, core_run_of_next _ hstep, runTurns_cons ts (by exact hr) (takeTurn_with_schedule ht [])]
      exact ih t

/-! ## Time and the logs -/

theorem nextTurn_erase_time (s : State) :
    nextTurn (Unread.time.erase s) = ((nextTurn s).1, Unread.time.erase (nextTurn s).2) := by
  unfold nextTurn
  cases h : s.schedule <;> simp [Unread.erase, h]

theorem step_erase_time {s : State} (hr : s.refused = false) :
    AgreeUpTo .time (step s) (step (Unread.time.erase s)) := by
  rw [step, if_neg (by simp [hr]), step, if_neg (by simp [Unread.erase, hr]), nextTurn_erase_time]
  exact takeTurn_erase .time rfl _ _

/-- Both steps agree with the step of the one erased state, or both states are refused for one reason. -/
theorem step_congr_time {s₁ s₂ : State} (h : Unread.time.erase s₁ = Unread.time.erase s₂) :
    (∀ t₁, step s₁ = .next t₁ → ∃ t₂, step s₂ = .next t₂ ∧ Unread.time.erase t₁ = Unread.time.erase t₂) ∧
    (∀ r, step s₁ = .refused r → step s₂ = .refused r) := by
  have hrefused : s₁.refused = s₂.refused := by rw [← refused_erase .time s₁, h, refused_erase]
  have hreason : s₁.refuseReason = s₂.refuseReason := by rw [← refuseReason_erase .time s₁, h, refuseReason_erase]
  cases hr : s₁.refused with
  | true =>
    rw [step_of_refused hr, step_of_refused (hrefused ▸ hr), hreason]
    exact ⟨fun _ he => (by cases he), fun _ he => he⟩
  | false =>
    obtain ⟨t₁, e₁, h₁, he₁, hagree₁⟩ := step_erase_time hr
    obtain ⟨t₂, e₂, h₂, he₂, hagree₂⟩ := step_erase_time (hrefused ▸ hr)
    obtain rfl : e₁ = e₂ := Host.Outcome.next.inj (he₁.symm.trans ((congrArg step h).trans he₂))
    rw [h₁, h₂]
    refine ⟨fun t ht => ⟨t₂, rfl, ?_⟩, fun _ he => (by cases he)⟩
    obtain rfl : t₁ = t := Host.Outcome.next.inj ht
    exact hagree₁.symm.trans hagree₂

/-- Settles O47: what the statement hides is the group `Unread.time`. -/
theorem timeAndLogsAreNeverRead : Obligations.TimeAndLogsAreNeverRead := by
  unfold Obligations.TimeAndLogsAreNeverRead
  exact fun s₁ s₂ h => step_congr_time h

/-! ## Handler steps and the sequencer -/

/-- Settles O45: the two handlers' equations name every register that changes. -/
theorem handlersLeaveTheSequencerAlone : Obligations.HandlersLeaveTheSequencerAlone := by
  unfold Obligations.HandlersLeaveTheSequencerAlone
  exact fun s => ⟨⟨_, dataReadyHandlerClassifiesByAddressMatch s, rfl⟩, ⟨_, addressMatchHandlerClassifiesByPending s, rfl⟩⟩

/-- The registers a handler's turn reads. -/
def handlerReads (s : State) : Bool × Bool × Bool × Bool × Bool × BitVec 4 × Nat × List EventRecord :=
  (s.refused, s.amLvl, s.irqDrPend, s.irqAmPend, s.pending, s.cbMask, s.now, s.evtLog)

/-- A handler's turn writes its registers with values that depend on `handlerReads` alone. -/
theorem handler_erases {h : Turn} (hh : h = .irqDr ∨ h = .irqAm) {s : State} (hr : s.refused = false) :
    ∃ u : Unread, u.isServed = true ∧ ∀ t, handlerReads t = handlerReads s → takeTurn h t = .next (u.erase t) := by
  simp only [handlerReads, Prod.mk.injEq]
  obtain rfl | rfl := hh
  · cases hlatch : s.irqDrPend with
    | false =>
      refine ⟨.served false s.irqAmPend s.pending s.evtLog, rfl, fun t ⟨_, _, hdr, ham, hp, _, _, hlog⟩ => ?_⟩
      rw [← hdr, ← ham, ← hp, ← hlog]
      exact irqDrTurn_of_clear hdr
    | true =>
      refine ⟨.served false s.irqAmPend (drRow s.amLvl s.pending).2
        (s.evtLog ++ [eventRecord s .handler (drRow s.amLvl s.pending).1]), rfl,
        fun t ⟨hr', hlvl, hdr, ham, hp, hmask, hnow, hlog⟩ => ?_⟩
      rw [takeTurn_irqDr_of_pending (hr'.trans hr) hdr]
      simp [Unread.erase, eventRecord, hlvl, ham, hp, hmask, hnow, hlog]
  · cases hlatch : s.irqAmPend with
    | false =>
      refine ⟨.served s.irqDrPend false s.pending s.evtLog, rfl, fun t ⟨_, _, hdr, ham, hp, _, _, hlog⟩ => ?_⟩
      rw [← hdr, ← ham, ← hp, ← hlog]
      exact irqAmTurn_of_clear ham
    | true =>
      refine ⟨.served s.irqDrPend false false
        (s.evtLog ++ (amRow s.amLvl s.pending).toList.map (eventRecord s .handler)), rfl,
        fun t ⟨hr', hlvl, hdr, ham, hp, hmask, hnow, hlog⟩ => ?_⟩
      have hrecord : eventRecord t .handler = eventRecord s .handler := by
        funext e
        simp [eventRecord, hmask, hnow]
      rw [takeTurn_irqAm_of_pending (hr'.trans hr) ham]
      simp [Unread.erase, hrecord, hlvl, hdr, hp, hlog]

/-- What has the erased values already is left alone by erasing. -/
theorem erase_of_handlerReads {u : Unread} (hu : u.isServed = true) {s t : State}
    (h : handlerReads t = handlerReads (u.erase s)) : u.erase t = t := by
  cases u with
  | served dr am p log =>
    simp only [handlerReads, Prod.mk.injEq] at h
    obtain ⟨-, -, rfl, rfl, rfl, -, -, rfl⟩ := h
    rfl
  | _ => cases hu

/-- The mode commands write nothing that a handler's turn reads. -/
theorem exec_modeCommand_handlerReads {i : Instr}
    (hi : i = .pwrdn ∨ i = .stby ∨ i = .rx ∨ i = .mode ∨ ∃ nm ca, i = .tx nm ca) {s t : State} (h : exec i s = .next t) :
    handlerReads t = handlerReads s := by
  obtain rfl | rfl | rfl | rfl | ⟨nm, ca, rfl⟩ := hi
  case inr.inr.inr.inr =>
    obtain ⟨-, rfl⟩ | ⟨-, -, -, rfl⟩ | ⟨-, -, rfl⟩ := exec_tx_cases h <;> simp [handlerReads]
  all_goals
    cases h
    simp [handlerReads]

theorem waitDoneTurn_handlerReads (s : State) : handlerReads (waitDoneTurn s) = handlerReads s := by
  unfold waitDoneTurn
  split <;> simp [handlerReads]

/-- Settles O46: the handler's turn is the same erasing before and after, since neither a mode command nor a completion
writes what it reads; and neither reads what it erases. -/
theorem handlersCommuteWithTheSequencer : Obligations.HandlersCommuteWithTheSequencer := by
  unfold Obligations.HandlersCommuteWithTheSequencer
  intro s h hh hr
  obtain ⟨u, hu, hserve⟩ := handler_erases hh hr
  refine ⟨fun i hi => ?command, ?completion⟩
  case command =>
    have hcommand : i.isCommand = true := by
      obtain rfl | rfl | rfl | rfl | ⟨_, _, rfl⟩ := hi <;> rfl
    obtain ⟨a, t, ha, ht, hagree⟩ := exec_command_erase u hcommand s
    have hself : u.erase t = t := erase_of_handlerReads hu (exec_modeCommand_handlerReads hi ht)
    refine ⟨a, u.erase s, t, ha, ?_, hserve s rfl, ht⟩
    rw [hserve a (exec_modeCommand_handlerReads hi ha), ← hagree, hself]
  case completion =>
    have hlive : (waitDoneTurn s).refused = false := (congrArg Prod.fst (waitDoneTurn_handlerReads s)).trans hr
    have hself : u.erase (waitDoneTurn (u.erase s)) = waitDoneTurn (u.erase s) :=
      erase_of_handlerReads hu (waitDoneTurn_handlerReads _)
    refine ⟨waitDoneTurn (u.erase s), ?_, ?_⟩
    · rw [runTurns_cons [h] hr rfl, runTurns_cons [] hlive (hserve _ (waitDoneTurn_handlerReads s)), ← waitDoneTurn_erase,
        hself]
      rfl
    · rw [runTurns_cons [.waitDone] hr (hserve s rfl), runTurns_cons [] ((refused_erase u s).trans hr) rfl]
      rfl

/-! ## Instances -/

/-- Settles O59: the system's step replaces the one block by its own next state. -/
theorem instancesAreIndependent : Obligations.InstancesAreIndependent := by
  unfold Obligations.InstancesAreIndependent
  intro sys k s t hk hstep
  obtain ⟨hlt, -⟩ := List.getElem?_eq_some_iff.1 hk
  exact ⟨by simp only [stepInstance, hk, hstep], List.getElem?_set_self hlt,
    fun j hj => List.getElem?_set_ne (Ne.symm hj)⟩

end Sys2Proof.Machine
end

section
/-! SUPPORT. The laws of spec/41_event_dispatcher.md that compare whole runs (R152, R154). Lemmas: what stands before an
RX_INVALID of a polled log; the address-match handler after one or more merged edges; and the two disciplines side by side
along a path of status words. -/

namespace Sys2Proof.Machine

/-! ## Polled: what stands before an RX_INVALID -/

/-- Every RX_INVALID of a list of events comes right after an ADDR_MATCH. -/
def InvalidsFollowMatches (es : List Event) : Prop :=
  ∀ before after, es = before ++ .rxInvalid :: after → before.getLast? = some .addrMatch

/-- A polled block: its latches are clear, each RX_INVALID of its log follows an ADDR_MATCH, and the flag `POLL_INAM` says
that the last event is one. -/
structure PolledLog (s : State) : Prop where
  polled : s.config.disc = .polled
  unlatched : s.irqDrPend = false ∧ s.irqAmPend = false
  separated : InvalidsFollowMatches (events s)
  flag : s.pollInam = true → (events s).getLast? = some .addrMatch

theorem InvalidsFollowMatches.concat {es : List Event} (h : InvalidsFollowMatches es) {e : Event}
    (he : e = .rxInvalid → es.getLast? = some .addrMatch) : InvalidsFollowMatches (es ++ [e]) := by
  intro before after heq
  obtain rfl | ⟨after, x, rfl⟩ := after.eq_nil_or_concat'
  · obtain ⟨rfl, hx⟩ := List.append_inj' heq rfl
    exact he (by simpa using hx)
  · rw [← List.cons_append, ← List.append_assoc] at heq
    exact h before after (List.append_inj' heq rfl).1

/-- R148's rows: RX_INVALID is raised with the flag set only, and the flag is set with an ADDR_MATCH only. -/
theorem pollRow_rxInvalid {w last : Status} {inam : Bool} (h : (pollRow w last inam).1 = some .rxInvalid) : inam = true := by
  revert w last inam
  decide

theorem pollRow_keeps_flag {w last : Status} {inam : Bool} (h : (pollRow w last inam).2 = true) :
    (pollRow w last inam).1 = some .addrMatch ∨ (pollRow w last inam).1 = none ∧ inam = true := by
  revert w last inam
  decide

theorem polledLog_pollStep {s : State} (h : PolledLog s) : PolledLog (pollStep s) := by
  have hevents := events_pollStep s
  have hflag : (pollStep s).pollInam = (pollRow (statusRead s) s.pollLast s.pollInam).2 := by rw [pollStep_eq]
  refine ⟨by simpa using h.polled, by simpa using h.unlatched, ?separated, ?flag⟩
  case separated =>
    rw [hevents]
    cases hrow : (pollRow (statusRead s) s.pollLast s.pollInam).1 with
    | none => simpa using h.separated
    | some e =>
      refine h.separated.concat fun he => h.flag ?_
      exact pollRow_rxInvalid (he ▸ hrow)
  case flag =>
    rw [hevents, hflag]
    intro hset
    obtain hrow | ⟨hrow, hinam⟩ := pollRow_keeps_flag hset
    · simp [hrow]
    · simpa [hrow] using h.flag hinam

theorem PolledLog.of_eq {s t : State} (h : PolledLog s) (hconfig : t.config = s.config := by simp)
    (hdr : t.irqDrPend = s.irqDrPend := by simp) (ham : t.irqAmPend = s.irqAmPend := by simp)
    (hlog : t.evtLog = s.evtLog := by simp) (hinam : t.pollInam = s.pollInam := by simp) : PolledLog t := by
  have hevents : events t = events s := by rw [events, hlog, events]
  exact ⟨hconfig ▸ h.polled, by rw [hdr, ham]; exact h.unlatched, hevents ▸ h.separated, by rw [hinam, hevents]; exact h.flag⟩

theorem polledLog_exec_command {i : Instr} {s t : State} (hi : i.isCommand = true) (h : exec i s = .next t)
    (hs : PolledLog s) : PolledLog t := by
  obtain rfl | rfl | rfl | rfl | ⟨_, rfl⟩ | ⟨-, rfl⟩ | ⟨-, rfl⟩ | ⟨-, _, rfl⟩ | ⟨-, rfl⟩ | ⟨-, _, rfl⟩ :=
    exec_command_cases hi h
  case inr.inr.inr.inr.inr.inl => exact polledLog_pollStep hs
  all_goals exact hs.of_eq

theorem takeTurn_keeps_polledLog {x : Turn} {s t : State} (hx : isReset x = false) (h : takeTurn x s = .next t) :
    PolledLog s → PolledLog t := by
  refine takeTurn_elim h (fun s t => PolledLog s → PolledLog t) ?hold ?command ?refuse ?waitDone ?irqDr ?irqAm ?status
    ?carrier ?tick ?line ?reset
  case command =>
    exact fun s ws n i hi _ t he _ hs =>
      polledLog_exec_command (s := { s with host := ws, freeCount := n }) hi he (hs.of_eq rfl rfl rfl rfl rfl)
  case irqDr => exact fun s he _ hs => absurd he (by simp [irqDrEnabled, hs.unlatched.1])
  case irqAm => exact fun s he _ hs => absurd he (by simp [irqAmEnabled, hs.unlatched.2])
  case status =>
    exact fun s d a _ hs => hs.of_eq rfl (by simp [envStatus_irqDrPend, hs.polled]) (by simp [envStatus_irqAmPend, hs.polled])
      rfl rfl
  case reset =>
    rintro _ _ _ _ _ rfl
    cases hx
  case hold => exact fun _ => id
  case carrier => exact fun s _ _ hs => hs.of_eq rfl rfl rfl rfl rfl
  case tick => exact fun s _ hs => hs.of_eq rfl rfl rfl rfl rfl
  all_goals intros; exact PolledLog.of_eq (by assumption)

theorem polledLog_resetWith {c : Config} (hc : c.disc = .polled) (dr am cd : Bool) (ws : List Word) :
    PolledLog { State.resetWith c dr am cd with host := ws } := by
  have empty : InvalidsFollowMatches [] := fun before after h => by simp at h
  cases hwf : c.wf <;> simp only [State.resetWith, hwf, State.resetRefused] <;>
    exact ⟨hc, ⟨rfl, rfl⟩, empty, nofun⟩

/-- Settles O40: the run keeps `PolledLog`, so right before the second RX_INVALID stands an ADDR_MATCH, which is not the
first RX_INVALID. -/
theorem polledInvalidsAreSeparatedByAddressMatches : Obligations.PolledInvalidsAreSeparatedByAddressMatches := by
  unfold Obligations.PolledInvalidsAreSeparatedByAddressMatches
  intro c dr am cd ws ts t hc hts h a b c' hevents
  have hlog : PolledLog t := runTurns_keeps PolledLog (fun x => isReset x = false)
    (fun x s t hx hs ht => takeTurn_keeps_polledLog hx ht hs) hts (polledLog_resetWith hc dr am cd ws) h
  have hlast : (a ++ [Event.rxInvalid] ++ b).getLast? = some .addrMatch :=
    hlog.separated (a ++ [.rxInvalid] ++ b) c' (by simp [hevents])
  obtain rfl | ⟨b, e, rfl⟩ := b.eq_nil_or_concat'
  · simp at hlast
  · rw [← List.append_assoc, List.getLast?_concat, Option.some.injEq] at hlast
    simp [hlast]

/-! ## Interrupt-driven: merged edges -/

/-- `s` with address-match at `am`, its latch at `latch`, and the events `es` raised by its handler since. -/
def amState (am latch : Bool) (es : List Event) (s : State) : State :=
  { s with
    drLvl := false
    amLvl := am
    irqAmPend := latch
    pending := false
    evtLog := s.evtLog ++ es.map (eventRecord s .handler) }

/-- R175: an edge sets the latch, and a latch that is set stays set whatever follows. -/
theorem takeTurn_envStatus_amState {s : State} (hinit : s.initDone = true) (hirq : s.config.disc = .interruptDriven)
    (ham : s.config.hasAm = true) {b a latch : Bool} (h : latch = true ∨ b ≠ a) (es : List Event) :
    takeTurn (.envStatus false a) (amState b latch es s) = .next (amState a true es s) := by
  have effect : envStatus false a (amState b latch es s) = amState a true es s := by
    obtain rfl | h := h <;> simp [envStatus_eq, amState, *]
  exact congrArg Host.Outcome.next effect

/-- R147 with `PENDING` 0: the handler's event says the level it reads. -/
theorem takeTurn_irqAm_amState {s : State} (hr : s.refused = false) (a : Bool) (es : List Event) :
    takeTurn .irqAm (amState a true es s) = .next (amState a false (es ++ [if a then .addrMatch else .rxInvalid]) s) := by
  rw [takeTurn_irqAm_of_pending (by exact hr) rfl]
  cases a <;> simp [amState, amRow, eventRecord]

theorem events_amState (am latch : Bool) (es : List Event) (s : State) : events (amState am latch es s) = events s ++ es := by
  simp [events, amState, eventRecord, Function.comp_def]

/-- Settles O41: each status step sets the latch or finds it set, and each handler step reads the level of that point. -/
theorem mergedEdgesRaiseASecondInvalid : Obligations.MergedEdgesRaiseASecondInvalid := by
  unfold Obligations.MergedEdgesRaiseASecondInvalid
  intro s hr hinit hirq ham hlvl hdr hlatch hpend
  have start : s = amState false false [] s := by
    apply State.ext <;> simp [amState, hlvl, hdr, hlatch, hpend]
  have live (am latch : Bool) (es : List Event) : (amState am latch es s).refused = false := hr
  have status {b a latch : Bool} (h : latch = true ∨ b ≠ a) (es : List Event) (ts : List Turn) :
      runTurns (.envStatus false a :: ts) (amState b latch es s) = runTurns ts (amState a true es s) :=
    runTurns_cons ts (live ..) (takeTurn_envStatus_amState hinit hirq ham h es)
  have serve (a : Bool) (es : List Event) (ts : List Turn) : runTurns (.irqAm :: ts) (amState a true es s) =
      runTurns ts (amState a false (es ++ [if a then .addrMatch else .rxInvalid]) s) :=
    runTurns_cons ts (live ..) (takeTurn_irqAm_amState hr a es)
  refine ⟨amState false false [.addrMatch, .rxInvalid, .rxInvalid] s, ?_, events_amState ..⟩
  conv_lhs => rw [start]
  rw [status (.inr (by decide)), serve, status (.inr (by decide)), serve, status (.inr (by decide)), status (.inl rfl), serve]
  rfl

/-! ## Both disciplines along a path -/

/-- The status word of the levels (DR, AM). -/
def statusWord (w : Bool × Bool) : Status := BitVec.ofBool w.1 ++ BitVec.ofBool w.2

/-- A polled block whose last POLL sampled `w`, with both status lines present. -/
structure PolledAt (w : Bool × Bool) (p : State) : Prop where
  port : portOpen p = true
  polled : p.config.disc = .polled
  hasDr : p.config.hasDr = true
  hasAm : p.config.hasAm = true
  last : p.pollLast = statusWord w
  flag : p.pollInam = decide (w = (false, true))

/-- An interrupt-driven block at levels `w` with every edge served; `PENDING` says that a payload is being received. -/
structure ServedAt (w : Bool × Bool) (q : State) : Prop where
  attached : InterruptsAttached q
  levels : q.drLvl = w.1 ∧ q.amLvl = w.2
  unlatched : q.irqDrPend = false ∧ q.irqAmPend = false
  pending : q.pending = decide (w = (true, true))

/-- The events POLL raises on a sample `x` after `w` (R148). -/
def polledEvents (w x : Bool × Bool) : List Event :=
  (pollRow (statusWord x) (statusWord w) (decide (w = (false, true)))).1.toList

theorem pollRow_flag_eq (w x : Bool × Bool) :
    (pollRow (statusWord x) (statusWord w) (decide (w = (false, true)))).2 = decide (x = (false, true)) := by
  revert w x
  decide

theorem polled_step {w : Bool × Bool} {p : State} {ws : List Word} (h : PolledAt w p) (hw : p.host = 0x70#8 :: ws)
    (x : Bool × Bool) :
    ∃ p', runTurns [.envStatus x.1 x.2, .host] p = .next p' ∧ PolledAt x p' ∧ p'.host = ws ∧
      events p' = events p ++ polledEvents w x := by
  obtain ⟨hr, hinit, -⟩ := (portOpen_iff p).1 h.port
  have hword : statusRead (envStatus x.1 x.2 p) = statusWord x := by simp [envStatus_eq, statusRead, statusWord, h.hasDr, h.hasAm]
  have hpoll : takeTurn .host (envStatus x.1 x.2 p) = .next (pollStep { envStatus x.1 x.2 p with host := ws }) :=
    hostTurn_poll (s := envStatus x.1 x.2 p) h.port hw h.polled
  have hrow : pollRow (statusRead (envStatus x.1 x.2 p)) (envStatus x.1 x.2 p).pollLast (envStatus x.1 x.2 p).pollInam =
      pollRow (statusWord x) (statusWord w) (decide (w = (false, true))) := by
    rw [hword, envStatus_pollLast, envStatus_pollInam, h.last, h.flag]
  have hstatus : takeTurn (.envStatus x.1 x.2) p = .next (envStatus x.1 x.2 p) := rfl
  have hlive : (envStatus x.1 x.2 p).refused = false := hr
  refine ⟨_, (runTurns_cons _ hr hstatus).trans (runTurns_cons _ hlive hpoll), ?_, by rw [pollStep_eq], ?_⟩
  · rw [pollStep_eq]
    exact ⟨(portOpen_iff _).2 ⟨hr, hinit, rfl⟩, h.polled, h.hasDr, h.hasAm, hword,
      (congrArg Prod.snd hrow).trans (pollRow_flag_eq w x)⟩
  · rw [events_pollStep]
    exact congrArg (events p ++ ·.1.toList) hrow

/-- The handlers' turns at one point of the path, in either order. -/
def handlerOrder (drFirst : Bool) : List Turn := if drFirst then [.irqDr, .irqAm] else [.irqAm, .irqDr]

/-- With one latch set at most, the order of the handlers does not matter: a turn without its latch is a hold. -/
theorem handlers_of_one {s t : State} (hr : s.refused = false) (ht : t.refused = false) (b : Bool)
    (h : (takeTurn .irqDr s = .next t ∧ takeTurn .irqAm s = .next s ∧ takeTurn .irqAm t = .next t) ∨
      (takeTurn .irqAm s = .next t ∧ takeTurn .irqDr s = .next s ∧ takeTurn .irqDr t = .next t)) :
    runTurns (handlerOrder b) s = .next t := by
  obtain ⟨h1, h2, h3⟩ | ⟨h1, h2, h3⟩ := h <;> cases b
  · exact (runTurns_cons _ hr h2).trans (runTurns_cons _ hr h1)
  · exact (runTurns_cons _ hr h1).trans (runTurns_cons _ ht h3)
  · exact (runTurns_cons _ hr h1).trans (runTurns_cons _ ht h3)
  · exact (runTurns_cons _ hr h2).trans (runTurns_cons _ hr h1)

/-- What a nominal transition asks of the handlers: no two edges come together, and the events and the `PENDING` of R149's
rows are the events of R148's and whether a payload is being received. -/
theorem nominal_cases {w x : Bool × Bool} (h : nominal w x = true) :
    ((!w.1 && x.1) = true ∧ w.2 = x.2 ∧
      drRow x.2 (decide (w = (true, true))) = (if x.2 then .rxComplete else .txComplete, decide (x = (true, true))) ∧
      polledEvents w x = [if x.2 then .rxComplete else .txComplete]) ∨
    ((!w.1 && x.1) = false ∧ w.2 ≠ x.2 ∧ decide (x = (true, true)) = false ∧
      polledEvents w x = (amRow x.2 (decide (w = (true, true)))).toList) ∨
    ((!w.1 && x.1) = false ∧ w.2 = x.2 ∧ decide (x = (true, true)) = decide (w = (true, true)) ∧ polledEvents w x = []) := by
  revert w x
  decide

/-- `q` at the levels `x` with every edge served: what the handlers left in `PENDING`, and the events they raised. -/
def served (x : Bool × Bool) (pending : Bool) (es : List Event) (q : State) : State :=
  { envStatus x.1 x.2 q with
    irqDrPend := false
    irqAmPend := false
    pending := pending
    evtLog := q.evtLog ++ es.map (eventRecord q .handler) }

theorem events_served (x : Bool × Bool) (pending : Bool) (es : List Event) (q : State) :
    events (served x pending es q) = events q ++ es := by
  simp [events, served, eventRecord, Function.comp_def]

theorem servedAt_served {q : State} (hs : InterruptsAttached q) (x : Bool × Bool) (es : List Event) :
    ServedAt x (served x (decide (x = (true, true))) es q) where
  attached := ⟨hs.live, hs.initDone, hs.interruptDriven, hs.hasDr, hs.hasAm⟩
  levels := by simp [served, envStatus_eq, hs.hasDr, hs.hasAm]
  unlatched := ⟨rfl, rfl⟩
  pending := rfl

theorem ServedAt.latches {w : Bool × Bool} {q : State} (h : ServedAt w q) (x : Bool × Bool) :
    (envStatus x.1 x.2 q).irqDrPend = (!w.1 && x.1) ∧ (envStatus x.1 x.2 q).irqAmPend = decide (w.2 ≠ x.2) := by
  obtain ⟨hs, ⟨hdr, ham⟩, ⟨hdrp, hamp⟩, -⟩ := h
  simp [envStatus_irqDrPend, envStatus_irqAmPend, hs.interruptDriven, hs.initDone, hs.hasDr, hs.hasAm, hdr, ham, hdrp, hamp]

theorem served_step {w x : Bool × Bool} {q : State} (h : ServedAt w q) (hnom : nominal w x = true) (b : Bool) :
    ∃ q', runTurns (.envStatus x.1 x.2 :: handlerOrder b) q = .next q' ∧ ServedAt x q' ∧
      events q' = events q ++ polledEvents w x := by
  obtain ⟨drLatch, amLatch⟩ := h.latches x
  have hpend : (envStatus x.1 x.2 q).pending = decide (w = (true, true)) := h.pending
  have level : (envStatus x.1 x.2 q).amLvl = x.2 := by simp [envStatus_eq, h.attached.hasAm]
  have live : (envStatus x.1 x.2 q).refused = false := h.attached.live
  refine ⟨served x (decide (x = (true, true))) (polledEvents w x) q, ?_, servedAt_served h.attached x _, events_served ..⟩
  rw [runTurns_cons (handlerOrder b) h.attached.live rfl]
  refine handlers_of_one live (by exact h.attached.live) b ?_
  obtain ⟨edge, same, row, hes⟩ | ⟨quiet, edge, hx, hes⟩ | ⟨quiet, same, hx, hes⟩ := nominal_cases hnom
  · have clear : (envStatus x.1 x.2 q).irqAmPend = false := by simpa [same] using amLatch
    refine .inl ⟨?_, irqAmTurn_of_clear clear, irqAmTurn_of_clear rfl⟩
    rw [takeTurn_irqDr_of_pending live (drLatch.trans edge), level, hpend, row, hes]
    simp [served, clear, eventRecord, level]
  · have clear : (envStatus x.1 x.2 q).irqDrPend = false := drLatch.trans quiet
    refine .inr ⟨?_, irqDrTurn_of_clear clear, irqDrTurn_of_clear rfl⟩
    rw [takeTurn_irqAm_of_pending live (amLatch.trans (decide_eq_true edge)), level, hpend, hes, hx]
    simp [served, clear, eventRecord, level]
  · have clear : (envStatus x.1 x.2 q).irqDrPend = false := drLatch.trans quiet
    have clear' : (envStatus x.1 x.2 q).irqAmPend = false := by simpa [same] using amLatch
    have unchanged : served x (decide (x = (true, true))) (polledEvents w x) q = envStatus x.1 x.2 q := by
      apply State.ext <;> simp [served, hes, hx, clear, clear', h.pending]
    rw [unchanged]
    exact .inl ⟨irqDrTurn_of_clear clear, irqAmTurn_of_clear clear', irqAmTurn_of_clear clear'⟩

theorem disciplines_agree {path : List (Bool × Bool)} (drFirst : Nat → Bool) (k : Nat) {w : Bool × Bool} {p q : State}
    (hpath : nominalPath w path = true) (hp : PolledAt w p) (hhost : p.host = List.replicate path.length 0x70#8)
    (hq : ServedAt w q) :
    ∃ p' q' es, runTurns (polledTurns path) p = .next p' ∧ runTurns (handlerTurns drFirst k path) q = .next q' ∧
      events p' = events p ++ es ∧ events q' = events q ++ es := by
  induction path generalizing w p q k with
  | nil => exact ⟨p, q, [], rfl, rfl, by simp, by simp⟩
  | cons x path ih =>
    obtain ⟨hnom, hpath⟩ := Bool.and_eq_true_iff.1 hpath
    obtain ⟨p₁, hp₁, hat, hhost₁, hevents⟩ := polled_step hp hhost x
    obtain ⟨q₁, hq₁, hserved, hevents'⟩ := served_step hq hnom (drFirst k)
    obtain ⟨p', q', es, hp', hq', he, he'⟩ := ih (k + 1) hpath hat hhost₁ hserved
    exact ⟨p', q', polledEvents w x ++ es, (runTurns_append _ hp₁).trans hp',
      (runTurns_append (handlerTurns drFirst (k + 1) path) hq₁).trans hq', by simp [he, hevents], by simp [he', hevents']⟩

/-- Settles O43: at each point of the path the two blocks raise the same events, whichever handler goes first. -/
theorem disciplinesAgreeOnNominalPaths : Obligations.DisciplinesAgreeOnNominalPaths := by
  unfold Obligations.DisciplinesAgreeOnNominalPaths
  intro p q path drFirst hpath hport hpolled hdr ham _ _ hlast hinam hr hinit hirq hdr' ham' hdrLvl hamLvl hpend hdrp hamp
  exact disciplines_agree drFirst 0 hpath ⟨hport, hpolled, hdr, ham, hlast, hinam⟩ rfl
    ⟨⟨hr, hinit, hirq, hdr', ham'⟩, ⟨hdrLvl, hamLvl⟩, ⟨hdrp, hamp⟩, hpend⟩

/-- Settles O44: the polled block goes on sampling 00, which it remembers; the other takes the first step of O43. -/
theorem equivalenceNeedsThePolledAddressMatchLine : Obligations.EquivalenceNeedsThePolledAddressMatchLine := by
  unfold Obligations.EquivalenceNeedsThePolledAddressMatchLine
  intro p q hport hpolled hdr ham _ _ hlast _ hr hinit hirq hdr' ham' hdrLvl hamLvl hpend hdrp hamp
  have sample : statusRead (envStatus false true p) = (envStatus false true p).pollLast := by
    simp [envStatus_eq, statusRead, hdr, ham, hlast]
  have hpoll : takeTurn .host (envStatus false true { p with host := [0x70#8] }) =
      .next (respond .poll 0 { envStatus false true p with host := [] }) := by
    rw [← pollStep_of_unchanged (s := { envStatus false true p with host := [] }) sample]
    exact hostTurn_poll (s := envStatus false true { p with host := [0x70#8] }) hport rfl hpolled
  obtain ⟨hlive, -⟩ := (portOpen_iff p).1 hport
  obtain ⟨q', hq', -, hevents⟩ := served_step (w := (false, false)) (x := (false, true))
    ⟨⟨hr, hinit, hirq, hdr', ham'⟩, ⟨hdrLvl, hamLvl⟩, ⟨hdrp, hamp⟩, hpend⟩ rfl true
  refine ⟨_, q', (runTurns_cons [.host] (by exact hlive) rfl).trans (runTurns_cons [] (by exact hlive) hpoll), hq', ?_, hevents⟩
  simp [events]

end Sys2Proof.Machine
end
